-- ==== Sys2Proof/Word.lean ====
section
/-! DEFINITION. The widths of the data of AES128-CORE (spec/10_state.md R20 to R22, spec/20_memory.md R60,
spec/30_encoding.md R90). A byte is the only number of the data path; a word, a block and the schedule are
sequences of bytes and never numbers (R22, R66), so they are vectors of a fixed length and not wide bit vectors. -/

namespace Sys2Proof

/-- "Byte: an 8-bit unsigned value, the atomic unit of all structures" (R12). -/
abbrev Byte := BitVec 8

/-- "an ordered sequence of exactly 4 bytes" (R22); index 0 is the byte written first (R17). -/
abbrev Word := Vector Byte 4

/-- A 16-byte block, key, State or round key, byte 0 first (R17, R21). -/
abbrev Block := Vector Byte 16

/-- The RoundKeySchedule: "an ordered sequence of exactly 44 Words, indices 0–43" (R22). -/
abbrev Schedule := Vector Word 44

/-- An address of the register space: 9 bits, 512 one-byte locations (R60). -/
abbrev Addr := BitVec 9

/-- A command word `{op, a, b}` of 24 bits (R90). -/
abbrev CmdWord := BitVec 24

end Sys2Proof
end

