-- ==== Sys2Proof/Config.lean ====
section
/-! DEFINITION. The parameters of spec/00_scope.md R10 and R11 that a rule of the machine reads. All of them are
fixed by the spec. The two open parameters, `LATENCY(op)` and `NCORES`, are read by no rule (R231, R257) and are
declared out of the model in NOTES.md. The spec leaves no value open (spec/93_implementation_defined.md, after
U16), so there is no free value here. -/

namespace Sys2Proof.Config

/-- Bytes of a block and bytes of a key: the only accepted KLEN and DLEN (R10, R221). -/
abbrev blockLength : Nat := 16

/-- Where the length counters KLEN and DLEN saturate (R11, R69, R70). -/
abbrev lengthCounterMax : Nat := 31

/-- The highest round-key index (R10: "round key r is words 4r to 4r+3, r = 0..10"). -/
abbrev lastRoundKey : Nat := 10

end Sys2Proof.Config
end

