-- ==== Sys2Proof/Machine/State.lean ====
section
/-! DEFINITION. The state of one AES128-CORE instance: every register of spec/10_state.md R20 under its own name,
and beside them the host's side of the bus, which is the model's own (notes/assumptions/1.md). The constant
tables SBOX, ISBOX, RCON of R28 are read-only memories that nothing changes: they are the definitions `sbox`,
`isbox`, `rcon` of Machine/Tables.lean. The core has no data memory and no instruction memory (R60). -/

namespace Sys2Proof.Machine

/-- STATUS.DIR, the sequence table in use (R33): 0 encryption, 1 decryption. -/
inductive Direction where
  | encryption
  | decryption
  deriving DecidableEq, Repr

/-- STATUS.ERR, "outcome of the most recent CMD write" (R33, R220): code 0, 1, 2. Code 3 is never produced. -/
inductive ErrCode where
  /-- Code 0: the command was accepted and performed. -/
  | noError
  /-- Code 1: the source's `InvalidLengthError` (R221). -/
  | invalidLength
  /-- Code 2: a command word or a command order that is refused (R222). -/
  | illegalCommand
  deriving DecidableEq, Repr

/-- What the host can do to the core: the two transactions of R15, and reset, "one more host action, available at
any point" (R250). -/
inductive HostAction where
  /-- `MemRead(addr, 1)`. -/
  | read (addr : Addr)
  /-- `MemWrite(addr, 1, v)`. -/
  | write (addr : Addr) (v : Byte)
  /-- `rst` asserted for a clock edge between two transactions. -/
  | reset
  deriving DecidableEq, Repr

/-- The complete state of one instance (R20), then the host's side of the bus. -/
structure State where
  /-- The State register, 16 bytes, `S[r + 4*c]` the byte at row r, column c (R21). -/
  S : Block
  /-- The RoundKeySchedule, 44 words of 4 bytes (R22). -/
  W : Schedule
  /-- The key bytes supplied by the host (R23). -/
  KEY : Block
  /-- Number of key bytes supplied, 5 bits, saturating at 31 (R23, R69). -/
  KLEN : BitVec 5
  /-- The input block supplied by the host (R24). -/
  DIN : Block
  /-- Number of input bytes supplied, 5 bits, saturating at 31 (R24, R70). -/
  DLEN : BitVec 5
  /-- The output block (R25). -/
  DOUT : Block
  /-- The byte result register of GFMUL, SBOX, ISBOX (R26). -/
  R : Byte
  /-- Operand field a of the next command (R27). -/
  ARGA : Byte
  /-- Operand field b of the next command (R27). -/
  ARGB : Byte
  /-- CTRL bit 0 (R32). -/
  TRACE : Bool
  /-- STATUS bit 0 (R33). -/
  PAUSED : Bool
  /-- STATUS bit 1 (R33). -/
  DIR : Direction
  /-- STATUS bits 3:2 (R33, R34). -/
  ERR : ErrCode
  /-- The sequence counter, 6 bits, values 0..43 (R36). -/
  STEP : Fin 44
  /-- The MODEL's own: what the host will do next, oldest first. The step performs the first. -/
  pending : List HostAction
  /-- The MODEL's own: the bus output `rdata` of R72 in the cycle that acknowledged the latest action: the byte
  read, or nothing when that action was no read. -/
  rdata : Option Byte
  deriving DecidableEq, Repr

/-- Why the machine could stop with a fault. It has no constructor: "Nothing else can fail … No bus access fails"
(R233), and the core's two errors are next states (R224), so no step of this machine faults. -/
inductive Fault where
  deriving DecidableEq, Repr

/-- Why the model could refuse an instruction. -/
inductive Refusal where
  /-- Raised by an arm of `exec` for an instruction without a meaning; no arm raises it. Safe: it stops the run. -/
  | notModelled (mnemonic : String)
  deriving DecidableEq, Repr

/-- The state after reset: every value is the spec's (R40), the host's side of the bus is empty
(notes/assumptions/1.md). -/
def State.reset : State where
  S := Vector.replicate 16 0
  W := Vector.replicate 44 (Vector.replicate 4 0)
  KEY := Vector.replicate 16 0
  KLEN := 0
  DIN := Vector.replicate 16 0
  DLEN := 0
  DOUT := Vector.replicate 16 0
  R := 0
  ARGA := 0
  ARGB := 0
  TRACE := false
  PAUSED := false
  DIR := .encryption
  ERR := .noError
  STEP := 0
  pending := []
  rdata := none

end Sys2Proof.Machine
end

