-- ==== Sys2Proof/Machine/Flags.lean ====
section
/-! DEFINITION. The control and status bytes the host reads (spec/10_state.md R32, R33, R35, R36) and the
acceptance checks of a command (spec/60_exceptions.md R223). These are the core's only flags: "no command sets a
zero, carry, overflow or sign flag" (R33). -/

namespace Sys2Proof.Machine

/-- The two-bit code of STATUS.ERR (R220). -/
def ErrCode.code : ErrCode → BitVec 2
  | .noError => 0
  | .invalidLength => 1
  | .illegalCommand => 2

/-- The bit of STATUS.DIR: "0 encryption, 1 decryption" (R33). -/
def Direction.bit : Direction → BitVec 1
  | .encryption => 0
  | .decryption => 1

/-- STATUS as read: `{0000, ERR[1:0], DIR, PAUSED}` (R33). -/
def statusByte (s : State) : Byte := 0#4 ++ s.ERR.code ++ s.DIR.bit ++ BitVec.ofBool s.PAUSED

/-- CTRL as read: `{0000000, TRACE}` (R32, R61). -/
def ctrlByte (s : State) : Byte := 0#7 ++ BitVec.ofBool s.TRACE

/-- STEP as read: `{00, STEP[5:0]}` (R36). -/
def stepByte (s : State) : Byte := 0#2 ++ BitVec.ofNat 6 s.STEP.val

/-- KLEN and DLEN as read: `{000, count[4:0]}` (R35). -/
def countByte (n : BitVec 5) : Byte := 0#3 ++ n

/-- A length counter after one more push: `min(n + 1, 31)` (R69, R70). -/
def countUp (n : BitVec 5) : BitVec 5 := BitVec.ofNat 5 (min (n.toNat + 1) Config.lengthCounterMax)

/-- Whether a length counter holds the one accepted length (R69: "exactly when KLEN == 16"). -/
def rightLength (n : BitVec 5) : Bool := n.toNat == Config.blockLength

/-- Check 2 of R223, for every command but CONT and CLR. -/
def checkIdle (s : State) : ErrCode := if s.PAUSED then .illegalCommand else .noError

/-- Check 3 of R223, for CONT. -/
def checkPaused (s : State) : ErrCode := if s.PAUSED then .noError else .illegalCommand

/-- Check 5 of R223, for LOAD, ENC and DEC. -/
def checkBlockLength (s : State) : ErrCode := if rightLength s.DLEN then .noError else .invalidLength

/-- Check 6 of R223, for KEXP, ENC and DEC. -/
def checkKeyLength (s : State) : ErrCode := if rightLength s.KLEN then .noError else .invalidLength

/-- "the first that fails decides the error" (R223). -/
def firstError : List ErrCode → ErrCode
  | [] => .noError
  | .noError :: rest => firstError rest
  | .invalidLength :: _ => .invalidLength
  | .illegalCommand :: _ => .illegalCommand

end Sys2Proof.Machine
end

