-- ==== Sys2Proof/Syntax.lean ====
section
/-! DEFINITION. The 17 commands of AES128-CORE, one constructor per row of spec/opcode_table.json and of
spec/30_encoding.md R92. A field of the command word that a command ignores (R90) is no operand of its constructor. -/

namespace Sys2Proof

/-- One command of the core (R3, R92). -/
inductive Instr where
  /-- LOAD, R181. -/
  | load
  /-- KEXP, R144. -/
  | kexp
  /-- ARK a, R151: `a` is the round key's index, legal in 0..10. -/
  | ark (a : Byte)
  /-- SUBB, R153. -/
  | subb
  /-- SHR, R157. -/
  | shr
  /-- MIXC, R161. -/
  | mixc
  /-- EMIT, R183. -/
  | emit
  /-- ISUBB, R155. -/
  | isubb
  /-- ISHR, R159. -/
  | ishr
  /-- IMIXC, R163. -/
  | imixc
  /-- GFMUL a, b, R111. -/
  | gfmul (a b : Byte)
  /-- SBOX a, R122. -/
  | sbox (a : Byte)
  /-- ISBOX a, R126. -/
  | isbox (a : Byte)
  /-- ENC, R189. -/
  | enc
  /-- DEC, R190. -/
  | dec
  /-- CONT, R191. -/
  | cont
  /-- CLR, R192. -/
  | clr
  deriving DecidableEq, Repr

end Sys2Proof
end

