-- ==== Sys2Proof/WellFormed.lean ====
section
/-! DEFINITION. Which commands have a legal command word (spec/30_encoding.md R94, R95): every one but `ARK a`
with `a` above 10. -/

namespace Sys2Proof

/-- The one operand condition of the command set: "ARK has in addition the operand condition a <= 10" (R92). -/
def Instr.wellFormed : Instr → Bool
  | .ark a => decide (a.toNat ≤ Config.lastRoundKey)
  | .load | .kexp | .subb | .shr | .mixc | .emit => true
  | .isubb | .ishr | .imixc => true
  | .gfmul _ _ | .sbox _ | .isbox _ => true
  | .enc | .dec | .cont | .clr => true

end Sys2Proof
end

