-- ==== Sys2Proof/Decode.lean ====
section
/-! DEFINITION. The decoder of spec/30_encoding.md R94, total on every 24-bit command word and rejecting by name,
and the encoder of the canonical words of R90 and R92. -/

namespace Sys2Proof

/-- The operation code, bits 23:16 of the command word (R90). -/
def opField (w : CmdWord) : Byte := w.extractLsb' 16 8

/-- The first operand byte, bits 15:8 (R90). -/
def aField (w : CmdWord) : Byte := w.extractLsb' 8 8

/-- The second operand byte, bits 7:0 (R90). -/
def bField (w : CmdWord) : Byte := w.extractLsb' 0 8

/-- The word `{op, a, b}`, op in the most significant byte (R13, R90). -/
def cmdWord (op a b : Byte) : CmdWord := op ++ a ++ b

/-- Why a command word is illegal (R95). Both raise `IllegalCommand` (R222). -/
inductive DecodeError where
  /-- "Every op value not listed in rule R92 is illegal". -/
  | unassignedOp (op : Byte)
  /-- "ARK with a in 11..255 is illegal". -/
  | roundKeyIndex (a : Byte)
  deriving DecidableEq, Repr

/-- `decode(word)` of R94. A field the command ignores may hold any value (R90). -/
def decode (w : CmdWord) : Except DecodeError Instr :=
  let op := opField w
  let a := aField w
  let b := bField w
  match op with
  | 0x01#8 => .ok .load
  | 0x02#8 => .ok .kexp
  | 0x03#8 => if a.toNat ≤ Config.lastRoundKey then .ok (.ark a) else .error (.roundKeyIndex a)
  | 0x04#8 => .ok .subb
  | 0x05#8 => .ok .shr
  | 0x06#8 => .ok .mixc
  | 0x07#8 => .ok .emit
  | 0x0C#8 => .ok .isubb
  | 0x0D#8 => .ok .ishr
  | 0x0E#8 => .ok .imixc
  | 0x10#8 => .ok (.gfmul a b)
  | 0x11#8 => .ok (.sbox a)
  | 0x19#8 => .ok (.isbox a)
  | 0x20#8 => .ok .enc
  | 0x28#8 => .ok .dec
  | 0x30#8 => .ok .cont
  | 0x31#8 => .ok .clr
  | _ => .error (.unassignedOp op)

/-- The canonical command word of R90 and R98: zero in every field the command ignores. -/
def encode : Instr → CmdWord
  | .load => cmdWord 0x01 0 0
  | .kexp => cmdWord 0x02 0 0
  | .ark a => cmdWord 0x03 a 0
  | .subb => cmdWord 0x04 0 0
  | .shr => cmdWord 0x05 0 0
  | .mixc => cmdWord 0x06 0 0
  | .emit => cmdWord 0x07 0 0
  | .isubb => cmdWord 0x0C 0 0
  | .ishr => cmdWord 0x0D 0 0
  | .imixc => cmdWord 0x0E 0 0
  | .gfmul a b => cmdWord 0x10 a b
  | .sbox a => cmdWord 0x11 a 0
  | .isbox a => cmdWord 0x19 a 0
  | .enc => cmdWord 0x20 0 0
  | .dec => cmdWord 0x28 0 0
  | .cont => cmdWord 0x30 0 0
  | .clr => cmdWord 0x31 0 0

/-- The command word whose low `nbits` bits are those of `w`, the rest zero (spec/opcode_table.json numbers a row's
24 bits from its least significant one, as R90 does). -/
def tableWord (nbits w : Nat) : CmdWord := BitVec.ofNat 24 (w % 2 ^ nbits)

/-- What the decoder reads from a word of spec/opcode_table.json. -/
def decodeTableWord (nbits w : Nat) : Option Instr :=
  match decode (tableWord nbits w) with
  | .ok i => some i
  | .error _ => none

end Sys2Proof
end

