-- ==== Sys2Proof/Machine/Operands.lean ====
section
/-! DEFINITION. The operand forms of the commands: the command word of a CMD write (spec/30_encoding.md R91), the
round-key operand of ARK (spec/43_state_transforms.md R151, spec/42_key_schedule.md R146) and the matrix view of a
16-byte State (spec/10_state.md R21). -/

namespace Sys2Proof.Machine

/-- The word a write of `v` to CMD issues: `{v, ARGA, ARGB}` with ARGA and ARGB as they are at that instant (R91). -/
def issuedWord (v : Byte) (s : State) : CmdWord := cmdWord v s.ARGA s.ARGB

/-- Operand a of ARK as a round-key index, "0..10" (R151). -/
def roundKeyIndex (a : Byte) : Option (Fin 11) :=
  if h : a.toNat ≤ Config.lastRoundKey then some ⟨a.toNat, Nat.lt_succ_of_le h⟩ else none

/-- The four words of round key `k`: "Words `4r..4r+3` form round key `r`" (R146). -/
def roundKeyWords (w : Schedule) (k : Fin 11) : Vector Word 4 :=
  Vector.ofFn fun c : Fin 4 => w[4 * k.val + c.val]

/-- The row of byte `i` of a block: `i % 4` (R21). -/
def rowOf (i : Fin 16) : Fin 4 := ⟨i.val % 4, Nat.mod_lt _ (by decide)⟩

/-- The column of byte `i` of a block: `i / 4` (R21). -/
def colOf (i : Fin 16) : Fin 4 := ⟨i.val / 4, by omega⟩

/-- `s(r, c)`, "the byte at row r, column c": `s[r + 4*c]` (R21). -/
def byteAt (s : Block) (r c : Fin 4) : Byte := s[r.val + 4 * c.val]

/-- The block whose byte at row r, column c is `f r c` (R21). -/
def ofMatrix (f : Fin 4 → Fin 4 → Byte) : Block := Vector.ofFn fun i : Fin 16 => f (rowOf i) (colOf i)

end Sys2Proof.Machine
end

