-- ==== Sys2Proof/Machine/Ops.lean ====
section
/-! DEFINITION. The named operations on the registers: the writes the commands make, issuing a command and raising
an error (spec/60_exceptions.md R223, R224), the clear of CLR (spec/44_block_driver.md R192), and the host's
access to the register space (spec/20_memory.md R61 to R70). -/

namespace Sys2Proof.Machine

/-- S <- b. -/
def State.setS (b : Block) (s : State) : State := { s with S := b }

/-- W <- w. -/
def State.setW (w : Schedule) (s : State) : State := { s with W := w }

/-- DOUT <- b. -/
def State.setDOUT (b : Block) (s : State) : State := { s with DOUT := b }

/-- R <- v. -/
def State.setR (v : Byte) (s : State) : State := { s with R := v }

/-- STATUS.ERR <- e. -/
def State.setERR (e : ErrCode) (s : State) : State := { s with ERR := e }

/-- STEP <- n. -/
def State.setSTEP (n : Fin 44) (s : State) : State := { s with STEP := n }

/-- ARGA <- v (R61). -/
def State.setARGA (v : Byte) (s : State) : State := { s with ARGA := v }

/-- ARGB <- v (R61). -/
def State.setARGB (v : Byte) (s : State) : State := { s with ARGB := v }

/-- "A write stores bit 0 of the written byte in TRACE and ignores bits 7:1" (R32). -/
def State.setCTRL (v : Byte) (s : State) : State := { s with TRACE := v.getLsbD 0 }

/-- The first statements of ENC and DEC: DIR <- d, STEP <- 0, PAUSED <- 1 (R189, R190). -/
def State.beginSequence (d : Direction) (s : State) : State := { s with DIR := d, STEP := 0, PAUSED := true }

/-- CLR's pseudocode but for ERR: S, W, KEY, DIN, KLEN, DLEN, PAUSED, DIR and STEP <- 0; DOUT, R, ARGA, ARGB and
CTRL are "Not changed" (R192). -/
def State.clear (s : State) : State :=
  { s with
    S := Vector.replicate 16 0
    KEY := Vector.replicate 16 0
    DIN := Vector.replicate 16 0
    W := Vector.replicate 44 (Vector.replicate 4 0)
    KLEN := 0
    DLEN := 0
    PAUSED := false
    DIR := .encryption
    STEP := 0 }

/-- Taking an error, the one thing this hardware has in the place of an exception: "`STATUS.ERR <- code`, and
nothing else changes … Control goes nowhere" (R224). No pc or status is saved, no mode changes, and "There is no
return-from-trap command" (R225), so there is no return beside it: the next CMD write sets ERR anew (R34). -/
def raiseError (e : ErrCode) (s : State) : State := s.setERR e

/-- Accepting a command: "perform the command's pseudocode; STATUS.ERR <- 0" (R223, step 7). -/
def accept (effect : State → State) (s : State) : State := (effect s).setERR .noError

/-- One command whose acceptance checks, in the order of R223, answered `checks`. "All checks precede any change of
state." -/
def issue (checks : List ErrCode) (effect : State → State) (s : State) : Host.Outcome State Fault Refusal :=
  match firstError checks with
  | .noError => .next (accept effect s)
  | .invalidLength => .next (raiseError .invalidLength s)
  | .illegalCommand => .next (raiseError .illegalCommand s)

/-- Store a pushed byte in the buffer when the count is below 16; a later byte is dropped (R69, R70). -/
def storePushed (buf : Block) (count : BitVec 5) (v : Byte) : Block :=
  if h : count.toNat < Config.blockLength then buf.set count.toNat v h else buf

/-- A write to KEY_PUSH (R69). -/
def State.pushKey (v : Byte) (s : State) : State :=
  if s.PAUSED then s else { s with KEY := storePushed s.KEY s.KLEN v, KLEN := countUp s.KLEN }

/-- A write to DIN_PUSH (R70). -/
def State.pushDin (v : Byte) (s : State) : State :=
  if s.PAUSED then s else { s with DIN := storePushed s.DIN s.DLEN v, DLEN := countUp s.DLEN }

/-- The address of CMD (R31). -/
abbrev addrCMD : Addr := 0x000

/-- The content on read of location `n` of the address map of R61. Reserved and write-only locations read 0x00 (R63). -/
def readLocation (s : State) (n : Nat) : Byte :=
  if n = 0x001 then s.ARGA
  else if n = 0x002 then s.ARGB
  else if n = 0x003 then ctrlByte s
  else if n = 0x004 then statusByte s
  else if n = 0x005 then stepByte s
  else if n = 0x006 then countByte s.KLEN
  else if n = 0x007 then countByte s.DLEN
  else if n = 0x008 then s.R
  else if h : 0x010 ≤ n ∧ n ≤ 0x01F then s.KEY[n - 0x010]
  else if h : 0x020 ≤ n ∧ n ≤ 0x02F then s.DIN[n - 0x020]
  else if h : 0x030 ≤ n ∧ n ≤ 0x03F then s.DOUT[n - 0x030]
  else if h : 0x040 ≤ n ∧ n ≤ 0x04F then s.S[n - 0x040]
  else if h : 0x100 ≤ n ∧ n ≤ 0x1AF then
    (s.W[(n - 0x100) / 4])[(n - 0x100) % 4]'(Nat.mod_lt _ (by decide))
  else 0x00

/-- What `MemRead(addr, 1)` returns (R15, R61). -/
def busRead (s : State) (addr : Addr) : Byte := readLocation s addr.toNat

/-- The effect of a write of the address map of R61 at every address but CMD. Writes to read-only and reserved
addresses change nothing (R63). -/
def writeRegister (addr : Addr) (v : Byte) (s : State) : State :=
  match addr with
  | 0x001#9 => s.setARGA v
  | 0x002#9 => s.setARGB v
  | 0x003#9 => s.setCTRL v
  | 0x009#9 => s.pushKey v
  | 0x00A#9 => s.pushDin v
  | _ => s

/-- The host's next action leaves the list, and `rdata` shows nothing until a read sets it (notes/assumptions/1.md). -/
def State.takeAction (rest : List HostAction) (s : State) : State := { s with pending := rest, rdata := none }

/-- A completed read answers the byte at `addr` and "changes no state" of the core (R64). -/
def State.answerRead (addr : Addr) (s : State) : State := { s with rdata := some (busRead s addr) }

/-- Reset: "all state … takes the values of" R40, "whatever the state before" (R250). What the host does after it
is the host's and stays. -/
def State.resetCore (s : State) : State := { State.reset with pending := s.pending }

end Sys2Proof.Machine
end

