-- ==== Sys2Proof/Machine/KeySchedule.lean ====
section
/-! DEFINITION. The key schedule and KEXP (spec/42_key_schedule.md). -/

namespace Sys2Proof.Machine

/-- "cyclically shifts the word's bytes left by one position" (R140). -/
def rotateWord (t : Word) : Word := #v[t[1], t[2], t[3], t[0]]

/-- "applies the forward substitution table byte-wise" (R141). -/
def subWord (t : Word) : Word := #v[sbox t[0], sbox t[1], sbox t[2], sbox t[3]]

/-- The byte-wise exclusive or of two words (R142). -/
def xorWords (u v : Word) : Word := #v[u[0] ^^^ v[0], u[1] ^^^ v[1], u[2] ^^^ v[2], u[3] ^^^ v[3]]

/-- The round constant of a round as a word: `(RCON[k], 0x00, 0x00, 0x00)` (R127). -/
def rconWord (kMinus1 : Fin 10) : Word := #v[rcon kMinus1, 0x00, 0x00, 0x00]

/-- The four words of the key: word j is the key bytes 4j..4j+3 (R143). Words 4 to 43 are not computed yet. -/
def keyWords (key : Block) : Schedule :=
  Vector.ofFn fun j : Fin 44 =>
    if h : j.val < 4 then
      #v[key[4 * j.val], key[4 * j.val + 1], key[4 * j.val + 2], key[4 * j.val + 3]]
    else Vector.replicate 4 0

/-- The loop body of R143 at index i = n + 4, for n = 0..39; `i / 4 = n / 4 + 1` is the round number. -/
def expandAt (w : Schedule) (n : Fin 40) : Schedule :=
  let prev := w[n.val + 3]
  let temp := if n.val % 4 = 0 then xorWords (subWord (rotateWord prev)) (rconWord ⟨n.val / 4, by omega⟩) else prev
  w.set (n.val + 4) (xorWords w[n.val] temp)

/-- `expand_key(key)`: the loop "strictly in increasing order" over i = 4..43 (R143, R145). -/
def expandKey (key : Block) : Schedule := (List.finRange 40).foldl expandAt (keyWords key)

/-- KEXP's effect: `W <- expand_key(KEY)` (R144). -/
def State.expandSchedule (s : State) : State := s.setW (expandKey s.KEY)

/-- KEXP: InvalidLength when KLEN != 16 (R144). -/
def execKexp (s : State) : Host.Outcome State Fault Refusal :=
  issue [checkIdle s, checkKeyLength s] State.expandSchedule s

end Sys2Proof.Machine
end

