-- ==== Sys2Proof/Machine/Galois.lean ====
section
/-! DEFINITION. The Galois-field byte multiplier and GFMUL (spec/40_gf_arithmetic.md). -/

namespace Sys2Proof.Machine

/-- One iteration's change of `a` in R110: shift left within the byte, and exclusive or with 0x1B when the bit
shifted out was set. -/
def xtime (a : Byte) : Byte := if a.getLsbD 7 then (a <<< 1) ^^^ 0x1B else a <<< 1

/-- `k` iterations of the loop of R110 on `acc`, `a`, `b`. -/
def gfLoop : Nat → Byte → Byte → Byte → Byte
  | 0, acc, _, _ => acc
  | k + 1, acc, a, b => gfLoop k (if b.getLsbD 0 then acc ^^^ a else acc) (xtime a) (b >>> 1)

/-- `gf_multiply(a, b)`: "exactly 8 iterations, whatever the values", the accumulator from zero (R110). -/
def gfMultiply (a b : Byte) : Byte := gfLoop 8 0x00 a b

/-- GFMUL a, b: `R <- gf_multiply(a, b)` (R111). -/
def execGfmul (a b : Byte) (s : State) : Host.Outcome State Fault Refusal :=
  issue [checkIdle s] (State.setR (gfMultiply a b)) s

end Sys2Proof.Machine
end

