-- ==== Sys2Proof/Machine/Transforms.lean ====
section
/-! DEFINITION. The State transforms and their commands (spec/43_state_transforms.md). "the new S is computed from
the old S as a whole, then written". -/

namespace Sys2Proof.Machine

/-- `add_round_key(s, (k0, k1, k2, k3))`: word c to column c, its byte r to row r (R150; spec/90_conflicts.md C1). -/
def addRoundKey (s : Block) (k : Vector Word 4) : Block := ofMatrix fun r c => byteAt s r c ^^^ (k[c])[r]

/-- `substitute_bytes(s)` (R152). -/
def substituteBytes (s : Block) : Block := Vector.ofFn fun i : Fin 16 => sbox s[i]

/-- `inverse_substitute_bytes(s)` (R154). -/
def inverseSubstituteBytes (s : Block) : Block := Vector.ofFn fun i : Fin 16 => isbox s[i]

/-- `shift_rows(s)`: `s'(r, c) <- s(r, (c + r) mod 4)` (R156); a sum in `Fin 4` is taken mod 4. -/
def shiftRows (s : Block) : Block := ofMatrix fun r c => byteAt s r (c + r)

/-- `inverse_shift_rows(s)`: `s'(r, c) <- s(r, (c - r) mod 4)` (R158); a difference in `Fin 4` is taken mod 4. -/
def inverseShiftRows (s : Block) : Block := ofMatrix fun r c => byteAt s r (c - r)

/-- The entry at row `r`, column `k` of M (R160) or IM (R162), from that matrix's row 0. In both matrices each row is the
row above rotated right by one position, so row r, column k holds the entry of row 0 at (k - r) mod 4; a difference in
`Fin 4` is taken mod 4. -/
def mixEntry (row0 : Vector Byte 4) (r k : Fin 4) : Byte := row0[k - r]

/-- The product of the matrix entry at row `r`, column `k` with the byte at row `k` of column `c` (R160). -/
def mixTerm (row0 : Vector Byte 4) (s : Block) (r c k : Fin 4) : Byte :=
  gfMultiply (mixEntry row0 r k) (byteAt s k c)

/-- The matrix with row 0 `row0` times each column of `s`: the exclusive or of a row's four products (R160). -/
def mixWith (row0 : Vector Byte 4) (s : Block) : Block :=
  ofMatrix fun r c => mixTerm row0 s r c 0 ^^^ mixTerm row0 s r c 1 ^^^ mixTerm row0 s r c 2 ^^^ mixTerm row0 s r c 3

/-- Row 0 of the matrix M of R160. -/
def mixRow : Vector Byte 4 := #v[2, 3, 1, 1]

/-- Row 0 of the matrix IM of R162. -/
def inverseMixRow : Vector Byte 4 := #v[14, 11, 13, 9]

/-- `mix_columns(s)` (R160). -/
def mixColumns (s : Block) : Block := mixWith mixRow s

/-- `inverse_mix_columns(s)` (R162). -/
def inverseMixColumns (s : Block) : Block := mixWith inverseMixRow s

/-- ARK's effect with a legal index: S and the four words of round key `k` (R151). -/
def State.addKey (k : Fin 11) (s : State) : State := s.setS (addRoundKey s.S (roundKeyWords s.W k))

/-- A transform applied to the register S. -/
def State.transformS (f : Block → Block) (s : State) : State := s.setS (f s.S)

/-- ARK a: IllegalCommand when a > 10 (R151). -/
def execArk (a : Byte) (s : State) : Host.Outcome State Fault Refusal :=
  match roundKeyIndex a with
  | some k => issue [checkIdle s] (State.addKey k) s
  | none => issue [checkIdle s, .illegalCommand] id s

/-- SUBB (R153). -/
def execSubb (s : State) : Host.Outcome State Fault Refusal :=
  issue [checkIdle s] (State.transformS substituteBytes) s

/-- ISUBB (R155). -/
def execIsubb (s : State) : Host.Outcome State Fault Refusal :=
  issue [checkIdle s] (State.transformS inverseSubstituteBytes) s

/-- SHR (R157). -/
def execShr (s : State) : Host.Outcome State Fault Refusal :=
  issue [checkIdle s] (State.transformS shiftRows) s

/-- ISHR (R159). -/
def execIshr (s : State) : Host.Outcome State Fault Refusal :=
  issue [checkIdle s] (State.transformS inverseShiftRows) s

/-- MIXC (R161). -/
def execMixc (s : State) : Host.Outcome State Fault Refusal :=
  issue [checkIdle s] (State.transformS mixColumns) s

/-- IMIXC (R163). -/
def execImixc (s : State) : Host.Outcome State Fault Refusal :=
  issue [checkIdle s] (State.transformS inverseMixColumns) s

end Sys2Proof.Machine
end

