-- ==== Sys2Proof/Machine/Sequence.lean ====
section
/-! DEFINITION. The two sequence tables and the sequencer `run()` (spec/44_block_driver.md R184, R185, R188). -/

namespace Sys2Proof.Machine

/-- A command that stands in a sequence table: the eleven of R188, ARK with a legal index. -/
inductive Entry where
  | load
  | kexp
  | ark (k : Fin 11)
  | subb
  | shr
  | mixc
  | isubb
  | ishr
  | imixc
  | emit
  | clr
  deriving DecidableEq, Repr

/-- The command an entry is (R75: "sequence table entries are whole command words"). -/
def entryInstr : Entry → Instr
  | .load => .load
  | .kexp => .kexp
  | .ark k => .ark (BitVec.ofNat 8 k.val)
  | .subb => .subb
  | .shr => .shr
  | .mixc => .mixc
  | .isubb => .isubb
  | .ishr => .ishr
  | .imixc => .imixc
  | .emit => .emit
  | .clr => .clr

/-- LOAD's effect: `S[i] <- DIN[i]` (R181). -/
def State.loadBlock (s : State) : State := s.setS s.DIN

/-- EMIT's effect: `DOUT[i] <- S[i]` (R183). -/
def State.emitBlock (s : State) : State := s.setDOUT s.S

/-- "Execute the command" of R188: the command's own effect, without the check "issued while PAUSED" and without
writing ERR. "No entry can raise an error", so no length is looked at (R144, R181, R188; notes/assumptions/7.md). -/
def performEntry : Entry → State → State
  | .load => State.loadBlock
  | .kexp => State.expandSchedule
  | .ark k => State.addKey k
  | .subb => State.transformS substituteBytes
  | .shr => State.transformS shiftRows
  | .mixc => State.transformS mixColumns
  | .isubb => State.transformS inverseSubstituteBytes
  | .ishr => State.transformS inverseShiftRows
  | .imixc => State.transformS inverseMixColumns
  | .emit => State.emitBlock
  | .clr => State.clear

/-- Sequence table 0, encryption: entries 0 to 43 in the order of R184, one round stage a line. -/
def encryptionTable : Vector Entry 44 :=
  #v[.load, .kexp,
     .ark 0,
     .subb, .shr, .mixc, .ark 1,
     .subb, .shr, .mixc, .ark 2,
     .subb, .shr, .mixc, .ark 3,
     .subb, .shr, .mixc, .ark 4,
     .subb, .shr, .mixc, .ark 5,
     .subb, .shr, .mixc, .ark 6,
     .subb, .shr, .mixc, .ark 7,
     .subb, .shr, .mixc, .ark 8,
     .subb, .shr, .mixc, .ark 9,
     .subb, .shr, .ark 10,
     .emit, .clr]

/-- Sequence table 1, decryption: entries 0 to 43 in the order of R185, one round stage a line. -/
def decryptionTable : Vector Entry 44 :=
  #v[.load, .kexp,
     .ark 10, .ishr, .isubb,
     .ark 9, .imixc, .ishr, .isubb,
     .ark 8, .imixc, .ishr, .isubb,
     .ark 7, .imixc, .ishr, .isubb,
     .ark 6, .imixc, .ishr, .isubb,
     .ark 5, .imixc, .ishr, .isubb,
     .ark 4, .imixc, .ishr, .isubb,
     .ark 3, .imixc, .ishr, .isubb,
     .ark 2, .imixc, .ishr, .isubb,
     .ark 1, .imixc, .ishr, .isubb,
     .ark 0,
     .emit, .clr]

/-- `SEQ[DIR]` (R188). -/
def seqTable : Direction → Vector Entry 44
  | .encryption => encryptionTable
  | .decryption => decryptionTable

/-- `SEQ[d][n]`. -/
def entryAt (d : Direction) (n : Fin 44) : Entry := (seqTable d)[n]

/-- `SEQ[STATUS.DIR][STEP]`, the entry the sequencer executes next (R36, R188). -/
def currentEntry (s : State) : Entry := entryAt s.DIR s.STEP

/-- The index after `n`: none after 43, where `run()` returns (R188). -/
def nextIndex (n : Fin 44) : Option (Fin 44) := if h : n.val + 1 < 44 then some ⟨n.val + 1, h⟩ else none

/-- The loop of `run()` (R188), with `fuel` passes left. It executes `SEQ[DIR][STEP]`; returns when that was entry 43;
else `STEP <- n + 1`, and returns when TRACE is 1. -/
def runLoop : Nat → State → State
  | 0, s => s
  | fuel + 1, s =>
    let t := performEntry (currentEntry s) s
    match nextIndex s.STEP with
    | none => t
    | some n => if t.TRACE then t.setSTEP n else runLoop fuel (t.setSTEP n)

/-- `run()`: "The loop ends after at most 44 entries" (R188), so 44 passes are all it can need. -/
def runSequence (s : State) : State := runLoop 44 s

end Sys2Proof.Machine
end

