-- ==== Sys2Proof/Machine/Driver.lean ====
section
/-! DEFINITION. The block driver's commands (spec/44_block_driver.md): LOAD, EMIT, ENC, DEC, CONT, CLR. -/

namespace Sys2Proof.Machine

/-- LOAD: InvalidLength when DLEN != 16 (R181). -/
def execLoad (s : State) : Host.Outcome State Fault Refusal :=
  issue [checkIdle s, checkBlockLength s] State.loadBlock s

/-- EMIT (R183). -/
def execEmit (s : State) : Host.Outcome State Fault Refusal :=
  issue [checkIdle s] State.emitBlock s

/-- ENC: `STATUS.DIR <- 0; STEP <- 0; STATUS.PAUSED <- 1; run()` (R189). -/
def execEnc (s : State) : Host.Outcome State Fault Refusal :=
  issue [checkIdle s, checkBlockLength s, checkKeyLength s] (fun t => runSequence (t.beginSequence .encryption)) s

/-- DEC: as ENC with `STATUS.DIR <- 1` (R190). -/
def execDec (s : State) : Host.Outcome State Fault Refusal :=
  issue [checkIdle s, checkBlockLength s, checkKeyLength s] (fun t => runSequence (t.beginSequence .decryption)) s

/-- CONT: IllegalCommand when no sequence is paused, else `run()` (R191). -/
def execCont (s : State) : Host.Outcome State Fault Refusal :=
  issue [checkPaused s] runSequence s

/-- CLR: "accepted in every state, paused or not" (R192). -/
def execClr (s : State) : Host.Outcome State Fault Refusal :=
  issue [] State.clear s

end Sys2Proof.Machine
end

