-- ==== Sys2Proof/Machine/Dispatch.lean ====
section
/-! DEFINITION. The meaning of each command, one arm per constructor. -/

namespace Sys2Proof.Machine

def exec (i : Instr) (s : State) : Host.Outcome State Fault Refusal :=
  match i with
  | .load => Sys2Proof.Machine.execLoad s
  | .kexp => Sys2Proof.Machine.execKexp s
  | .ark a => Sys2Proof.Machine.execArk a s
  | .subb => Sys2Proof.Machine.execSubb s
  | .shr => Sys2Proof.Machine.execShr s
  | .mixc => Sys2Proof.Machine.execMixc s
  | .emit => Sys2Proof.Machine.execEmit s
  | .isubb => Sys2Proof.Machine.execIsubb s
  | .ishr => Sys2Proof.Machine.execIshr s
  | .imixc => Sys2Proof.Machine.execImixc s
  | .gfmul a b => Sys2Proof.Machine.execGfmul a b s
  | .sbox a => Sys2Proof.Machine.execSbox a s
  | .isbox a => Sys2Proof.Machine.execIsbox a s
  | .enc => Sys2Proof.Machine.execEnc s
  | .dec => Sys2Proof.Machine.execDec s
  | .cont => Sys2Proof.Machine.execCont s
  | .clr => Sys2Proof.Machine.execClr s

end Sys2Proof.Machine
end

