-- ==== Sys2Proof/Machine/Bus.lean ====
section
/-! DEFINITION. What one host action does: a read, a write (a write to CMD issues a command, spec/30_encoding.md R91),
or reset. -/

namespace Sys2Proof.Machine

/-- A command word presented to the core: check 1 of R223 and ARK's operand condition are the decoder's; an illegal
word "raises `IllegalCommand` … and changes nothing else" (R95). -/
def issueWord (w : CmdWord) (s : State) : Host.Outcome State Fault Refusal :=
  match decode w with
  | .ok i => exec i s
  | .error (.unassignedOp _) => .next (raiseError .illegalCommand s)
  | .error (.roundKeyIndex _) => .next (raiseError .illegalCommand s)

/-- One host action, performed completely (R68). -/
def performAction : HostAction → State → Host.Outcome State Fault Refusal
  | .read addr, s => .next (s.answerRead addr)
  | .write addr v, s => if addr = addrCMD then issueWord (issuedWord v s) s else .next (writeRegister addr v s)
  | .reset, s => .next s.resetCore

/-- A state in which the host's next action is the CMD write that issues the word `w`, with ARGA and ARGB set before
it, as R91 asks. -/
def placeWord (w : CmdWord) (s : State) : State :=
  { s with
    ARGA := aField w
    ARGB := bField w
    pending := .write addrCMD (opField w) :: s.pending }

end Sys2Proof.Machine
end

