-- ==== Sys2Proof/Machine/Step.lean ====
section
/-! DEFINITION. One step of the machine: the host's next action, performed completely (spec/20_memory.md R68). -/

namespace Sys2Proof.Machine

/-- One step. With no action pending "the core is idle and keeps all its state" (spec/60_exceptions.md R232). -/
def step (s : State) : Host.Outcome State Fault Refusal :=
  match s.pending with
  | [] => .next s
  | act :: rest => performAction act (s.takeAction rest)

/-- `s` with the command word `w` (its low `nbits` bits) presented by the host's very next action: ARGA and ARGB hold
its operand bytes and the next action writes its op byte to CMD (spec/30_encoding.md R91; notes/assumptions/2.md). -/
def State.withFetchWord (s : State) (nbits w : Nat) : State := placeWord (tableWord nbits w) s

end Sys2Proof.Machine
end

