-- ==== Sys2Proof/Machine/Cipher.lean ====
section
/-! DEFINITION. The two block functions of spec/44_block_driver.md R186 and R187, as pure functions. No command's
meaning uses them: ENC and DEC run the sequence tables of Machine/Sequence.lean, and R189, R190 and R195 say that
the two agree. -/

namespace Sys2Proof.Machine

/-- `s <- add_round_key(s, w[4r..4r+3])`. -/
def addKeyOf (w : Schedule) (r : Fin 11) (s : Block) : Block := addRoundKey s (roundKeyWords w r)

/-- The body of the loop of R186 for round `r`. -/
def encryptRound (w : Schedule) (s : Block) (r : Fin 11) : Block :=
  addKeyOf w r (mixColumns (shiftRows (substituteBytes s)))

/-- The body of the loop of R187 for round `r`. -/
def decryptRound (w : Schedule) (s : Block) (r : Fin 11) : Block :=
  inverseSubstituteBytes (inverseShiftRows (inverseMixColumns (addKeyOf w r s)))

/-- `encrypt_block(p, k)` (R186). -/
def encryptBlock (p k : Block) : Block :=
  let w := expandKey k
  let s := addKeyOf w 0 p
  let s := ([1, 2, 3, 4, 5, 6, 7, 8, 9] : List (Fin 11)).foldl (encryptRound w) s
  addKeyOf w 10 (shiftRows (substituteBytes s))

/-- `decrypt_block(c, k)` (R187). -/
def decryptBlock (c k : Block) : Block :=
  let w := expandKey k
  let s := inverseSubstituteBytes (inverseShiftRows (addKeyOf w 10 c))
  let s := ([9, 8, 7, 6, 5, 4, 3, 2, 1] : List (Fin 11)).foldl (decryptRound w) s
  addKeyOf w 0 s

end Sys2Proof.Machine
end

