-- ==== Sys2Proof/Safety.lean ====
section
/-! DEFINITION. The terms the statements are written in: the invariants of a run, the result of a completed cipher
operation, the check list of spec/60_exceptions.md R223, and what data independence (spec/44_block_driver.md R194)
lets a command look at. -/

namespace Sys2Proof.Machine

/-- Sixteen zero bytes. -/
def zeroBlock : Block := Vector.replicate 16 0

/-- Forty-four zero words. -/
def zeroSchedule : Schedule := Vector.replicate 44 (Vector.replicate 4 0)

/-- The registers of R20 alone: the host's side of the bus left out. -/
def coreOf (s : State) : State := { s with pending := [], rdata := none }

/-- What R29 says of every reachable state beyond the sizes, which the types already give, and why no entry of a
sequence can fail: the lengths were right when it was accepted and stay so (R188). Bytes not yet pushed are zero. -/
abbrev StatusInv (s : State) : Prop :=
  (s.PAUSED = false → s.STEP = 0 ∧ s.DIR = .encryption) ∧
  (s.PAUSED = true → 1 ≤ s.STEP.val ∧ s.KLEN = 16 ∧ s.DLEN = 16) ∧
  (∀ i : Fin 16, s.KLEN.toNat ≤ i.val → s.KEY[i] = 0) ∧
  (∀ i : Fin 16, s.DLEN.toNat ≤ i.val → s.DIN[i] = 0)

/-- The block function of a direction: R186 or R187. -/
def cipherOf : Direction → Block → Block → Block
  | .encryption => encryptBlock
  | .decryption => decryptBlock

/-- What an entry makes of the State block, with input block `p` and schedule `w`. -/
def entryOnBlock (w : Schedule) (p : Block) (b : Block) : Entry → Block
  | .load => p
  | .kexp => b
  | .ark k => addKeyOf w k b
  | .subb => substituteBytes b
  | .shr => shiftRows b
  | .mixc => mixColumns b
  | .isubb => inverseSubstituteBytes b
  | .ishr => inverseShiftRows b
  | .imixc => inverseMixColumns b
  | .emit => b
  | .clr => zeroBlock

/-- "the State after entry n" (R197), for the first `count` = n + 1 entries of table `d` on block `p` under key `k`. -/
def blockAfter (d : Direction) (p k : Block) (count : Nat) : Block :=
  ((seqTable d).toList.take count).foldl (entryOnBlock (expandKey k) p) zeroBlock

/-- What a paused sequence has computed so far (R197): S is the State after the entry executed last, W the schedule once
KEXP has run, DOUT the result once EMIT has run. -/
abbrev TraceInv (s : State) : Prop :=
  s.PAUSED = true →
    1 ≤ s.STEP.val ∧
    s.S = blockAfter s.DIR s.DIN s.KEY s.STEP.val ∧
    (2 ≤ s.STEP.val → s.W = expandKey s.KEY) ∧
    (s.STEP.val = 43 → s.DOUT = cipherOf s.DIR s.DIN s.KEY)

/-- The state a completed cipher operation leaves (R189): DOUT holds the result; S, W, KEY, DIN zero; KLEN = DLEN = 0;
PAUSED = DIR = STEP = 0; ERR = 0; "R, ARGA, ARGB, CTRL unchanged". -/
def afterCipher (out : Block) (s : State) : State :=
  { s with
    S := zeroBlock
    W := zeroSchedule
    KEY := zeroBlock
    KLEN := 0
    DIN := zeroBlock
    DLEN := 0
    DOUT := out
    PAUSED := false
    DIR := .encryption
    ERR := .noError
    STEP := 0 }

/-- The 17 assigned op values of R92, in its order. -/
def assignedOps : List Byte :=
  [0x01, 0x02, 0x03, 0x04, 0x05, 0x06, 0x07, 0x0C, 0x0D, 0x0E, 0x10, 0x11, 0x19, 0x20, 0x28, 0x30, 0x31]

/-- The checks of R223 on the command word `{op, a, b}`, in its order: the code of the first that fails. -/
def refusalCode (op a : Byte) (s : State) : ErrCode :=
  if op ∉ assignedOps then .illegalCommand
  else if s.PAUSED = true ∧ op ≠ 0x30 ∧ op ≠ 0x31 then .illegalCommand
  else if s.PAUSED = false ∧ op = 0x30 then .illegalCommand
  else if op = 0x03 ∧ 10 < a.toNat then .illegalCommand
  else if (op = 0x01 ∨ op = 0x20 ∨ op = 0x28) ∧ s.DLEN ≠ 16 then .invalidLength
  else if (op = 0x02 ∨ op = 0x20 ∨ op = 0x28) ∧ s.KLEN ≠ 16 then .invalidLength
  else .noError

/-- Whether a command uses its field a (R90, R92). -/
def usesA : Instr → Bool
  | .ark _ | .gfmul _ _ | .sbox _ | .isbox _ => true
  | .load | .kexp | .subb | .shr | .mixc | .emit | .isubb | .ishr | .imixc | .enc | .dec | .cont | .clr => false

/-- Whether a command uses its field b (R90, R92). -/
def usesB : Instr → Bool
  | .gfmul _ _ => true
  | .ark _ | .sbox _ | .isbox _ => false
  | .load | .kexp | .subb | .shr | .mixc | .emit | .isubb | .ishr | .imixc | .enc | .dec | .cont | .clr => false

/-- What control flow and acceptance may depend on besides the command word: "only on KLEN, DLEN, PAUSED, TRACE, STEP,
DIR" (R194). -/
structure Control where
  KLEN : BitVec 5
  DLEN : BitVec 5
  PAUSED : Bool
  TRACE : Bool
  STEP : Fin 44
  DIR : Direction
  deriving DecidableEq, Repr

/-- The control part of a state. -/
def controlOf (s : State) : Control :=
  { KLEN := s.KLEN, DLEN := s.DLEN, PAUSED := s.PAUSED, TRACE := s.TRACE, STEP := s.STEP, DIR := s.DIR }

/-- The op byte that starts a direction's sequence: ENC 0x20, DEC 0x28 (R92). -/
def startOp : Direction → Byte
  | .encryption => 0x20
  | .decryption => 0x28

/-- A host action that neither resets the core nor issues CLR: what R195 allows between ENC and the end. -/
def keepsOperation : HostAction → Bool
  | .read _ => true
  | .write addr v => !(addr == addrCMD && v == 0x31)
  | .reset => false

/-- The key or input buffer and its counter after the bytes `bs` are pushed from the cleared state, in order (R23, R69). -/
def pushedBlock (bs : List Byte) : Block := Vector.ofFn fun i : Fin 16 => bs.getD i.val 0

/-- The list of write actions that push the bytes `bs` at `addr` (R99, PUSHK and PUSHD). -/
def pushes (addr : Addr) (bs : List Byte) : List HostAction := bs.map (HostAction.write addr)

end Sys2Proof.Machine
end

