-- ==== Sys2Proof/Certificates/Slice0/Obligations.lean ====
section
/-! DEFINITION. The statements about the model. Each docstring names the rules of spec/ it formalises. A statement
about a command's next state writes the whole state, `{ s with … }`: every register, flag and host-side field it does
not name is unchanged. -/

open Sys2Proof Sys2Proof.Machine Host

/-! ## Reset and the invariants -/

/-- R40: the value of every register after reset, and the idle condition PAUSED = 0. -/
def Obligations.ResetValues : Prop :=
  (∀ i : Fin 16, State.reset.S[i] = 0x00 ∧ State.reset.KEY[i] = 0x00 ∧ State.reset.DIN[i] = 0x00 ∧
    State.reset.DOUT[i] = 0x00) ∧
  (∀ (i : Fin 44) (j : Fin 4), (State.reset.W[i])[j] = 0x00) ∧
  State.reset.KLEN = 0 ∧ State.reset.DLEN = 0 ∧ State.reset.R = 0x00 ∧ State.reset.ARGA = 0x00 ∧
  State.reset.ARGB = 0x00 ∧ State.reset.TRACE = false ∧ State.reset.PAUSED = false ∧
  State.reset.DIR = .encryption ∧ State.reset.ERR = .noError ∧ statusByte State.reset = 0x00 ∧ State.reset.STEP = 0

/-- R250: reset as a host action, from every state, paused or not. The host's later actions stay (the model's own
choice, log 6), so the statement speaks of the registers of R20. -/
def Obligations.ResetFromAnyState : Prop :=
  ∀ (s : State) (rest : List HostAction), s.pending = .reset :: rest →
    ∃ t, step s = .next t ∧ coreOf t = State.reset

/-- Both invariants hold at reset. -/
def Obligations.ResetMeetsInvariants : Prop :=
  StatusInv State.reset ∧ TraceInv State.reset

/-- R29 as an invariant of every step, from every state that meets it. -/
def Obligations.StepKeepsStatusInvariant : Prop :=
  ∀ s t : State, StatusInv s → step s = .next t → StatusInv t

/-- R197 as an invariant of every step: a paused sequence always shows the State after its latest entry. -/
def Obligations.StepKeepsTraceInvariant : Prop :=
  ∀ s t : State, TraceInv s → step s = .next t → TraceInv t

/-! ## Encoding -/

/-- Words written out from R90, R92 and the worked examples of R98. -/
def Obligations.CommandWordsDecode : Prop :=
  decode 0x010000#24 = .ok .load ∧ decode 0x020000#24 = .ok .kexp ∧ decode 0x030A00#24 = .ok (.ark 10) ∧
  decode 0x105783#24 = .ok (.gfmul 0x57 0x83) ∧ decode 0x115300#24 = .ok (.sbox 0x53) ∧
  decode 0x0E0000#24 = .ok .imixc ∧ decode 0x280000#24 = .ok .dec ∧ decode 0x310000#24 = .ok .clr ∧
  decode 0x000000#24 = .error (.unassignedOp 0) ∧ decode 0x030B00#24 = .error (.roundKeyIndex 11)

/-- Decode and encode agree on every well-formed command, with every operand byte at every value. -/
def Obligations.DecodeOfEncode : Prop :=
  ∀ i : Instr, i.wellFormed = true → decode (encode i) = .ok i

/-- R94: the decoder is total; it refuses exactly the words with an unassigned op or with ARK and a above 10, and what it
selects has the word's op and, where the command uses them, the word's operand bytes. -/
def Obligations.DecodeSelectsTheCommand : Prop :=
  ∀ w : CmdWord,
    ((∃ e, decode w = .error e) ↔ opField w ∉ assignedOps ∨ (opField w = 0x03 ∧ 10 < (aField w).toNat)) ∧
    (∀ i, decode w = .ok i →
      i.wellFormed = true ∧ opField (encode i) = opField w ∧ (usesA i = true → aField (encode i) = aField w) ∧
        (usesB i = true → bField (encode i) = bField w))

/-- "A field a command ignores may hold any value and does not affect the command" (R90). -/
def Obligations.IgnoredFieldsDoNotMatter : Prop :=
  ∀ (op a b a' b' : Byte) (i : Instr), decode (cmdWord op a b) = .ok i →
    (usesA i = true → a' = a) → (usesB i = true → b' = b) → decode (cmdWord op a' b') = .ok i

/-- R93: the five pairs differ in bit 3 of op only, which is clear in the transform and so set in its inverse, and the op values an inverse form would otherwise have are illegal. -/
def Obligations.DirectionBitPairs : Prop :=
  opField (encode .isubb) = opField (encode .subb) ^^^ 0x08 ∧
  opField (encode .ishr) = opField (encode .shr) ^^^ 0x08 ∧
  opField (encode .imixc) = opField (encode .mixc) ^^^ 0x08 ∧
  (∀ a, opField (encode (.isbox a)) = opField (encode (.sbox a)) ^^^ 0x08) ∧
  opField (encode .dec) = opField (encode .enc) ^^^ 0x08 ∧
  (opField (encode .subb)).getLsbD 3 = false ∧ (opField (encode .shr)).getLsbD 3 = false ∧
  (opField (encode .mixc)).getLsbD 3 = false ∧ (∀ a, (opField (encode (.sbox a))).getLsbD 3 = false) ∧
  (opField (encode .enc)).getLsbD 3 = false ∧
  (∀ op ∈ ([0x0B, 0x09, 0x0A, 0x0F, 0x18, 0x38, 0x39] : List Byte), ∀ a b : Byte,
    decode (cmdWord op a b) = .error (.unassignedOp op))

/-! ## A step -/

/-- A host write of `v` to CMD runs the command of the word `{v, ARGA, ARGB}` (R91). The step takes the action off the
host's list and leaves `rdata` empty (the model's own, log 1). -/
def Obligations.StepRunsDecodedCommand : Prop :=
  ∀ (s : State) (v : Byte) (rest : List HostAction) (i : Instr),
    s.pending = .write 0x000 v :: rest → decode (cmdWord v s.ARGA s.ARGB) = .ok i →
      step s = exec i { s with pending := rest, rdata := none }

/-- A command word placed with `withFetchWord` is what the next step runs (log 2). -/
def Obligations.PlacedWordIsRunNext : Prop :=
  ∀ (s : State) (w : Nat) (i : Instr), decode (BitVec.ofNat 24 w) = .ok i →
    step (s.withFetchWord 24 w) =
      exec i { s with ARGA := aField (BitVec.ofNat 24 w), ARGB := bField (BitVec.ofNat 24 w), rdata := none }

/-- R95: which words are illegal and that issuing one changes ERR only; GFMUL, SBOX and ISBOX take every operand. -/
def Obligations.IllegalWordRaisesIllegalCommand : Prop :=
  (∀ (s : State) (v : Byte) (rest : List HostAction),
    s.pending = .write 0x000 v :: rest → (v ∉ assignedOps ∨ (v = 0x03 ∧ 10 < s.ARGA.toNat)) →
      step s = .next { s with ERR := .illegalCommand, pending := rest, rdata := none }) ∧
  assignedOps.length = 17 ∧ assignedOps.Nodup ∧ 0x00 ∉ assignedOps ∧ 0xFF ∉ assignedOps ∧
  (∀ a b : Byte, decode (cmdWord 0x10 a b) = .ok (.gfmul a b) ∧ decode (cmdWord 0x11 a b) = .ok (.sbox a) ∧
    decode (cmdWord 0x19 a b) = .ok (.isbox a))

/-- "Between transactions the core is idle and keeps all its state" (R232). -/
def Obligations.IdleKeepsState : Prop :=
  ∀ s : State, s.pending = [] → step s = .next s

/-- Nothing stops: every command and every host action ends in a next state (R233, R258), from every state. -/
def Obligations.EveryStepCompletes : Prop :=
  (∀ (i : Instr) (s : State), ∃ t, exec i s = .next t) ∧ (∀ s : State, ∃ t, step s = .next t)

/-! ## The register space -/

/-- The "content on read" column of the address map of R61, every address. -/
def Obligations.AddressMapReads : Prop :=
  ∀ s : State,
    busRead s 0x000 = 0x00 ∧ busRead s 0x001 = s.ARGA ∧ busRead s 0x002 = s.ARGB ∧
    busRead s 0x003 = BitVec.ofNat 8 s.TRACE.toNat ∧
    busRead s 0x004 = BitVec.ofNat 8 (4 * s.ERR.code.toNat + 2 * s.DIR.bit.toNat + s.PAUSED.toNat) ∧
    busRead s 0x005 = BitVec.ofNat 8 s.STEP.val ∧ busRead s 0x006 = BitVec.ofNat 8 s.KLEN.toNat ∧
    busRead s 0x007 = BitVec.ofNat 8 s.DLEN.toNat ∧ busRead s 0x008 = s.R ∧ busRead s 0x009 = 0x00 ∧
    busRead s 0x00A = 0x00 ∧
    (∀ i : Fin 16, busRead s (BitVec.ofNat 9 (0x010 + i.val)) = s.KEY[i] ∧
      busRead s (BitVec.ofNat 9 (0x020 + i.val)) = s.DIN[i] ∧
      busRead s (BitVec.ofNat 9 (0x030 + i.val)) = s.DOUT[i] ∧ busRead s (BitVec.ofNat 9 (0x040 + i.val)) = s.S[i]) ∧
    (∀ (i : Fin 44) (j : Fin 4), busRead s (BitVec.ofNat 9 (0x100 + 4 * i.val + j.val)) = (s.W[i])[j]) ∧
    (∀ a : Addr, (0x00B ≤ a.toNat ∧ a.toNat ≤ 0x00F) ∨ (0x050 ≤ a.toNat ∧ a.toNat ≤ 0x0FF) ∨ 0x1B0 ≤ a.toNat →
      busRead s a = 0x00)

/-- R64: a read answers the byte and changes no register, so reading twice answers the same byte; a write to any address
but CMD, KEY_PUSH and DIN_PUSH is idempotent and touches at most ARGA, ARGB and TRACE; writes to those three are not
idempotent: a second push counts again, a second ENC finds its input gone. -/
def Obligations.ReadsHaveNoSideEffects : Prop :=
  (∀ (s : State) (a : Addr) (rest : List HostAction), s.pending = .read a :: rest →
    step s = .next { s with pending := rest, rdata := some (busRead s a) }) ∧
  (∀ s t : State, coreOf s = coreOf t → ∀ a, busRead s a = busRead t a) ∧
  (∀ (s : State) (a : Addr) (v : Byte) (rest : List HostAction), a ≠ 0x000 → a ≠ 0x009 → a ≠ 0x00A →
    s.pending = .write a v :: rest →
      ∃ t, step s = .next t ∧ t = { s with ARGA := t.ARGA, ARGB := t.ARGB, TRACE := t.TRACE, pending := rest, rdata := none } ∧
        step { t with pending := s.pending } = .next t) ∧
  (∀ (s : State) (v : Byte) (rest : List HostAction), s.PAUSED = false → s.KLEN.toNat < 30 →
    s.pending = .write 0x009 v :: .write 0x009 v :: rest →
      ∃ t u, step s = .next t ∧ step t = .next u ∧ u.KLEN ≠ t.KLEN) ∧
  (∀ (s : State) (v : Byte) (rest : List HostAction), s.PAUSED = false → s.DLEN.toNat < 30 →
    s.pending = .write 0x00A v :: .write 0x00A v :: rest →
      ∃ t u, step s = .next t ∧ step t = .next u ∧ u.DLEN ≠ t.DLEN) ∧
  (∀ (s : State) (rest : List HostAction), s.PAUSED = false → s.KLEN = 16 → s.DLEN = 16 →
    s.pending = .write 0x000 0x20 :: .write 0x000 0x20 :: rest →
      ∃ t u, step s = .next t ∧ step t = .next u ∧ t.ERR = .noError ∧ u.ERR ≠ .noError)

/-- R63: a read of a reserved address or of a write-only register answers 0x00; a write to a reserved address or to a
read-only register changes nothing; and no access but a write to CMD touches ERR. -/
def Obligations.ReservedAndReadOnlyAccesses : Prop :=
  (∀ (s : State) (a : Addr) (rest : List HostAction), s.pending = .read a :: rest →
    (a = 0x000 ∨ a = 0x009 ∨ (0x00A ≤ a.toNat ∧ a.toNat ≤ 0x00F) ∨ (0x050 ≤ a.toNat ∧ a.toNat ≤ 0x0FF) ∨
      0x1B0 ≤ a.toNat) →
      step s = .next { s with pending := rest, rdata := some 0x00 }) ∧
  (∀ (s : State) (a : Addr) (v : Byte) (rest : List HostAction), s.pending = .write a v :: rest →
    ((0x004 ≤ a.toNat ∧ a.toNat ≤ 0x008) ∨ 0x00B ≤ a.toNat) →
      step s = .next { s with pending := rest, rdata := none }) ∧
  (∀ (s t : State) (a : Addr) (rest : List HostAction), s.pending = .read a :: rest → step s = .next t → t.ERR = s.ERR) ∧
  (∀ (s t : State) (a : Addr) (v : Byte) (rest : List HostAction), a ≠ 0x000 → s.pending = .write a v :: rest →
    step s = .next t → t.ERR = s.ERR)

/-- R69: one push to KEY_PUSH; a whole stream of pushes from the cleared buffer; and what alone can bring KLEN back to 0. -/
def Obligations.KeyPush : Prop :=
  (∀ (s : State) (v : Byte) (rest : List HostAction), s.pending = .write 0x009 v :: rest → s.PAUSED = true →
    step s = .next { s with pending := rest, rdata := none }) ∧
  (∀ (s : State) (v : Byte) (rest : List HostAction), s.pending = .write 0x009 v :: rest → s.PAUSED = false →
    ∃ t, step s = .next t ∧ t = { s with KEY := t.KEY, KLEN := t.KLEN, pending := rest, rdata := none } ∧
      t.KLEN.toNat = min (s.KLEN.toNat + 1) 31 ∧
      ∀ i : Fin 16, t.KEY[i] = if i.val = s.KLEN.toNat then v else s.KEY[i]) ∧
  (∀ (s : State) (bs : List Byte) (rest : List HostAction), s.PAUSED = false → s.KLEN = 0 → s.KEY = zeroBlock →
    s.pending = pushes 0x009 bs ++ rest →
      ∃ t, core.run bs.length s = .next t ∧ t.pending = rest ∧
        coreOf t = coreOf { s with KEY := pushedBlock bs, KLEN := BitVec.ofNat 5 (min bs.length 31) } ∧
        (t.KLEN = 16 ↔ bs.length = 16)) ∧
  (∀ s t : State, step s = .next t → s.KLEN ≠ 0 → t.KLEN = 0 →
    ∃ rest, s.pending = .reset :: rest ∨
      ∃ op ∈ ([0x20, 0x28, 0x30, 0x31] : List Byte), s.pending = .write 0x000 op :: rest)

/-- R70: as R69 with DIN for KEY and DLEN for KLEN. -/
def Obligations.DinPush : Prop :=
  (∀ (s : State) (v : Byte) (rest : List HostAction), s.pending = .write 0x00A v :: rest → s.PAUSED = true →
    step s = .next { s with pending := rest, rdata := none }) ∧
  (∀ (s : State) (v : Byte) (rest : List HostAction), s.pending = .write 0x00A v :: rest → s.PAUSED = false →
    ∃ t, step s = .next t ∧ t = { s with DIN := t.DIN, DLEN := t.DLEN, pending := rest, rdata := none } ∧
      t.DLEN.toNat = min (s.DLEN.toNat + 1) 31 ∧
      ∀ i : Fin 16, t.DIN[i] = if i.val = s.DLEN.toNat then v else s.DIN[i]) ∧
  (∀ (s : State) (bs : List Byte) (rest : List HostAction), s.PAUSED = false → s.DLEN = 0 → s.DIN = zeroBlock →
    s.pending = pushes 0x00A bs ++ rest →
      ∃ t, core.run bs.length s = .next t ∧ t.pending = rest ∧
        coreOf t = coreOf { s with DIN := pushedBlock bs, DLEN := BitVec.ofNat 5 (min bs.length 31) } ∧
        (t.DLEN = 16 ↔ bs.length = 16)) ∧
  (∀ s t : State, step s = .next t → s.DLEN ≠ 0 → t.DLEN = 0 →
    ∃ rest, s.pending = .reset :: rest ∨
      ∃ op ∈ ([0x20, 0x28, 0x30, 0x31] : List Byte), s.pending = .write 0x000 op :: rest)

/-- R27: ARGA and ARGB are written by the host at 0x001 and 0x002 at any time, paused or not, read back, supply the
fields a and b of the next command word, and keep their value through every other action but reset; no command changes
them. -/
def Obligations.OperandRegistersKeepTheirValue : Prop :=
  (∀ (s : State) (v : Byte) (rest : List HostAction), s.pending = .write 0x001 v :: rest →
    step s = .next { s with ARGA := v, pending := rest, rdata := none }) ∧
  (∀ (s : State) (v : Byte) (rest : List HostAction), s.pending = .write 0x002 v :: rest →
    step s = .next { s with ARGB := v, pending := rest, rdata := none }) ∧
  (∀ s : State, busRead s 0x001 = s.ARGA ∧ busRead s 0x002 = s.ARGB) ∧
  (∀ (s : State) (v : Byte) (rest : List HostAction), s.pending = .write 0x000 v :: rest →
    ∃ w : CmdWord, aField w = s.ARGA ∧ bField w = s.ARGB ∧ opField w = v ∧
      step s = issueWord w { s with pending := rest, rdata := none }) ∧
  (∀ (i : Instr) (s t : State), exec i s = .next t → t.ARGA = s.ARGA ∧ t.ARGB = s.ARGB) ∧
  (∀ s t : State, step s = .next t → t.ARGA ≠ s.ARGA →
    ∃ rest, s.pending = .reset :: rest ∨ ∃ v, s.pending = .write 0x001 v :: rest) ∧
  (∀ s t : State, step s = .next t → t.ARGB ≠ s.ARGB →
    ∃ rest, s.pending = .reset :: rest ∨ ∃ v, s.pending = .write 0x002 v :: rest)

/-- CTRL (R32): a write stores bit 0 in TRACE and ignores bits 7:1, paused or not; it reads back as {0000000, TRACE}; no
command changes it. -/
def Obligations.ControlRegister : Prop :=
  (∀ (s : State) (v : Byte) (rest : List HostAction), s.pending = .write 0x003 v :: rest →
    step s = .next { s with TRACE := v.getLsbD 0, pending := rest, rdata := none }) ∧
  (∀ s : State, (busRead s 0x003).getLsbD 0 = s.TRACE ∧ ∀ k, 1 ≤ k → (busRead s 0x003).getLsbD k = false) ∧
  (∀ (i : Instr) (s t : State), exec i s = .next t → t.TRACE = s.TRACE)

/-! ## Errors -/

/-- R223 and R224: a CMD write gives ERR the code of the first check that fails, and then nothing else changes; when none
fails the command of the word runs and ERR is 0. -/
def Obligations.FirstFailedCheckDecides : Prop :=
  ∀ (s : State) (v : Byte) (rest : List HostAction), s.pending = .write 0x000 v :: rest →
    ∃ t, step s = .next t ∧ t.ERR = refusalCode v s.ARGA s ∧
      (refusalCode v s.ARGA s = .noError →
        ∃ i, decode (cmdWord v s.ARGA s.ARGB) = .ok i ∧ exec i { s with pending := rest, rdata := none } = .next t) ∧
      (refusalCode v s.ARGA s ≠ .noError →
        t = { s with ERR := refusalCode v s.ARGA s, pending := rest, rdata := none })

/-- "ERR is not sticky: every CMD write sets it … Nothing else writes it but reset" (R34). -/
def Obligations.ErrIsOutcomeOfLatestCmdWrite : Prop :=
  (∀ (s t : State) (v : Byte) (rest : List HostAction), s.pending = .write 0x000 v :: rest → step s = .next t →
    t.ERR = refusalCode v s.ARGA s) ∧
  (∀ s t : State, step s = .next t → t.ERR ≠ s.ERR →
    ∃ rest, s.pending = .reset :: rest ∨ ∃ v, s.pending = .write 0x000 v :: rest)

/-! ## Whole-machine rules -/

/-- "R receives the result of GFMUL, SBOX and ISBOX and is changed by nothing else but reset" (R26); the host reads it at
0x008. -/
def Obligations.ResultRegisterWriters : Prop :=
  (∀ s : State, busRead s 0x008 = s.R) ∧
  (∀ (s : State) (a b : Byte), s.PAUSED = false →
    (∃ t, exec (.gfmul a b) s = .next t ∧ t.R = gfMultiply a b) ∧ (∃ t, exec (.sbox a) s = .next t ∧ t.R = sbox a) ∧
      (∃ t, exec (.isbox a) s = .next t ∧ t.R = isbox a)) ∧
  (∀ s t : State, step s = .next t → t.R ≠ s.R →
    ∃ rest, s.pending = .reset :: rest ∨
      ∃ v i, s.pending = .write 0x000 v :: rest ∧ decode (cmdWord v s.ARGA s.ARGB) = .ok i ∧
        ((∃ a b, i = .gfmul a b ∧ t.R = gfMultiply a b) ∨ (∃ a, i = .sbox a ∧ t.R = sbox a) ∨
          (∃ a, i = .isbox a ∧ t.R = isbox a)))

/-- The "writes" column of R41: which commands can change which registers. -/
def Obligations.CommandsWriteOnlyTheirRegisters : Prop :=
  ∀ (i : Instr) (s t : State), exec i s = .next t →
    (t.ARGA = s.ARGA ∧ t.ARGB = s.ARGB ∧ t.TRACE = s.TRACE ∧ t.pending = s.pending ∧ t.rdata = s.rdata) ∧
    (t.S ≠ s.S → i ∈ [.load, .subb, .isubb, .shr, .ishr, .mixc, .imixc, .enc, .dec, .cont, .clr] ∨ ∃ a, i = .ark a) ∧
    (t.W ≠ s.W → i ∈ [.kexp, .enc, .dec, .cont, .clr]) ∧
    (t.DOUT ≠ s.DOUT → i ∈ [.emit, .enc, .dec, .cont]) ∧
    (t.R ≠ s.R → (∃ a b, i = .gfmul a b) ∨ (∃ a, i = .sbox a) ∨ ∃ a, i = .isbox a) ∧
    (t.KEY ≠ s.KEY ∨ t.KLEN ≠ s.KLEN ∨ t.DIN ≠ s.DIN ∨ t.DLEN ≠ s.DLEN → i ∈ [.clr, .enc, .dec, .cont]) ∧
    (t.PAUSED ≠ s.PAUSED ∨ t.DIR ≠ s.DIR ∨ t.STEP ≠ s.STEP → i ∈ [.enc, .dec, .cont, .clr])

/-- R194: acceptance and control flow never depend on a data byte: two states with the same KLEN, DLEN, PAUSED, TRACE,
STEP, DIR give, for the same command or command word, the same outcome code and the same six again, and a sequence
executes the same entry next. -/
def Obligations.ControlIndependentOfData : Prop :=
  ∀ s t : State, controlOf s = controlOf t →
    currentEntry s = currentEntry t ∧
    (∀ i : Instr, ∃ s' t', exec i s = .next s' ∧ exec i t = .next t' ∧ controlOf s' = controlOf t' ∧ s'.ERR = t'.ERR) ∧
    (∀ w : CmdWord, ∃ s' t', issueWord w s = .next s' ∧ issueWord w t = .next t' ∧ controlOf s' = controlOf t' ∧
      s'.ERR = t'.ERR)

/-- STEP stays, advances by exactly 1, or becomes 0; "no other value is ever loaded into STEP" (R193). The premise rules
out states with a nonzero STEP and nothing paused, which no run reaches. -/
def Obligations.StepCounterMovesByOneOrClears : Prop :=
  ∀ s t : State, StatusInv s → step s = .next t →
    t.STEP = s.STEP ∨ t.STEP.val = s.STEP.val + 1 ∨ t.STEP = 0

/-! ## The single commands -/

/-- LOAD (R181). -/
def Obligations.LoadCopiesInputBlock : Prop :=
  encode .load = 0x010000#24 ∧
  (∀ s : State, s.PAUSED = false → s.DLEN = 16 → exec .load s = .next { s with S := s.DIN, ERR := .noError }) ∧
  (∀ s : State, s.PAUSED = false → s.DLEN ≠ 16 → exec .load s = .next { s with ERR := .invalidLength }) ∧
  (∀ s : State, s.PAUSED = true → exec .load s = .next { s with ERR := .illegalCommand })

/-- KEXP (R144). -/
def Obligations.KexpExpandsKey : Prop :=
  encode .kexp = 0x020000#24 ∧
  (∀ s : State, s.PAUSED = false → s.KLEN = 16 → exec .kexp s = .next { s with W := expandKey s.KEY, ERR := .noError }) ∧
  (∀ s : State, s.PAUSED = false → s.KLEN ≠ 16 → exec .kexp s = .next { s with ERR := .invalidLength }) ∧
  (∀ s : State, s.PAUSED = true → exec .kexp s = .next { s with ERR := .illegalCommand })

/-- ARK (R151): an index 0..10 adds that round key, byte by byte; a higher one is refused; applied twice it restores S;
two of them commute. -/
def Obligations.ArkAddsRoundKey : Prop :=
  (∀ k : Fin 11, encode (.ark (BitVec.ofNat 8 k.val)) = BitVec.ofNat 24 (0x030000 + 0x100 * k.val)) ∧
  (∀ (s : State) (k : Fin 11), s.PAUSED = false →
    ∃ b : Block, exec (.ark (BitVec.ofNat 8 k.val)) s = .next { s with S := b, ERR := .noError } ∧
      (∀ i : Fin 16, b[i] = s.S[i] ^^^ (s.W[4 * k.val + i.val / 4]'(by omega))[i.val % 4]'(by omega)) ∧
      exec (.ark (BitVec.ofNat 8 k.val)) { s with S := b, ERR := .noError } = .next { s with ERR := .noError }) ∧
  (∀ (s t u : State) (j k : Fin 11), s.PAUSED = false →
    exec (.ark (BitVec.ofNat 8 j.val)) s = .next t → exec (.ark (BitVec.ofNat 8 k.val)) s = .next u →
      ∃ v, exec (.ark (BitVec.ofNat 8 k.val)) t = .next v ∧ exec (.ark (BitVec.ofNat 8 j.val)) u = .next v) ∧
  (∀ (s : State) (a : Byte), 10 < a.toNat → exec (.ark a) s = .next { s with ERR := .illegalCommand }) ∧
  (∀ (s : State) (a : Byte), s.PAUSED = true → exec (.ark a) s = .next { s with ERR := .illegalCommand })

/-- SUBB and ISUBB (R153, R155): each byte through its table; SUBB leaves no byte as it was; each undoes the other. -/
def Obligations.SubBytesCommands : Prop :=
  encode .subb = 0x040000#24 ∧ encode .isubb = 0x0C0000#24 ∧
  (∀ s : State, s.PAUSED = false →
    ∃ b : Block, exec .subb s = .next { s with S := b, ERR := .noError } ∧ ∀ i : Fin 16, b[i] = sbox s.S[i]) ∧
  (∀ s : State, s.PAUSED = false →
    ∃ b : Block, exec .isubb s = .next { s with S := b, ERR := .noError } ∧ ∀ i : Fin 16, b[i] = isbox s.S[i]) ∧
  (sbox 0x00 = 0x63 ∧ isbox 0x00 = 0x52 ∧ ∀ x : Byte, sbox x ≠ x) ∧
  (∀ s t : State, s.PAUSED = false → exec .subb s = .next t → exec .isubb t = .next { s with ERR := .noError }) ∧
  (∀ s t : State, s.PAUSED = false → exec .isubb s = .next t → exec .subb t = .next { s with ERR := .noError }) ∧
  (∀ s : State, s.PAUSED = true →
    exec .subb s = .next { s with ERR := .illegalCommand } ∧ exec .isubb s = .next { s with ERR := .illegalCommand })

/-- SHR and ISHR (R157, R159), in the flat forms of R156 and R158. -/
def Obligations.ShiftRowsCommands : Prop :=
  encode .shr = 0x050000#24 ∧ encode .ishr = 0x0D0000#24 ∧
  (∀ s : State, s.PAUSED = false →
    exec .shr s = .next
      { s with
        S := #v[s.S[0], s.S[5], s.S[10], s.S[15], s.S[4], s.S[9], s.S[14], s.S[3],
                s.S[8], s.S[13], s.S[2], s.S[7], s.S[12], s.S[1], s.S[6], s.S[11]]
        ERR := .noError }) ∧
  (∀ s : State, s.PAUSED = false →
    exec .ishr s = .next
      { s with
        S := #v[s.S[0], s.S[13], s.S[10], s.S[7], s.S[4], s.S[1], s.S[14], s.S[11],
                s.S[8], s.S[5], s.S[2], s.S[15], s.S[12], s.S[9], s.S[6], s.S[3]]
        ERR := .noError }) ∧
  (∀ s : State, s.PAUSED = true →
    exec .shr s = .next { s with ERR := .illegalCommand } ∧ exec .ishr s = .next { s with ERR := .illegalCommand })

/-- MIXC (R161), with the four outputs of a column as R160 writes them out; a column of four equal bytes is unchanged;
MIXC is linear. -/
def Obligations.MixcMultipliesColumns : Prop :=
  encode .mixc = 0x060000#24 ∧
  (∀ s : State, s.PAUSED = false →
    ∃ b : Block, exec .mixc s = .next { s with S := b, ERR := .noError } ∧
      ∀ c : Fin 4,
        let x0 := s.S[4 * c.val]
        let x1 := s.S[4 * c.val + 1]
        let x2 := s.S[4 * c.val + 2]
        let x3 := s.S[4 * c.val + 3]
        b[4 * c.val] = gfMultiply 2 x0 ^^^ gfMultiply 3 x1 ^^^ x2 ^^^ x3 ∧
        b[4 * c.val + 1] = x0 ^^^ gfMultiply 2 x1 ^^^ gfMultiply 3 x2 ^^^ x3 ∧
        b[4 * c.val + 2] = x0 ^^^ x1 ^^^ gfMultiply 2 x2 ^^^ gfMultiply 3 x3 ∧
        b[4 * c.val + 3] = gfMultiply 3 x0 ^^^ x1 ^^^ x2 ^^^ gfMultiply 2 x3) ∧
  (∀ (s t : State) (c : Fin 4) (x : Byte), s.PAUSED = false → exec .mixc s = .next t →
    (∀ r : Fin 4, byteAt s.S r c = x) → ∀ r : Fin 4, byteAt t.S r c = x) ∧
  (∀ s t u s' t' u' : State, s.PAUSED = false → t.PAUSED = false → u.PAUSED = false →
    (∀ i : Fin 16, u.S[i] = s.S[i] ^^^ t.S[i]) →
    exec .mixc s = .next s' → exec .mixc t = .next t' → exec .mixc u = .next u' →
      ∀ i : Fin 16, u'.S[i] = s'.S[i] ^^^ t'.S[i]) ∧
  (∀ s : State, s.PAUSED = true → exec .mixc s = .next { s with ERR := .illegalCommand })

/-- IMIXC (R163), with the four outputs of a column as R162 writes them out; a column of four equal bytes is unchanged;
MIXC and IMIXC undo each other. -/
def Obligations.ImixcMultipliesColumns : Prop :=
  encode .imixc = 0x0E0000#24 ∧
  (∀ s : State, s.PAUSED = false →
    ∃ b : Block, exec .imixc s = .next { s with S := b, ERR := .noError } ∧
      ∀ c : Fin 4,
        let x0 := s.S[4 * c.val]
        let x1 := s.S[4 * c.val + 1]
        let x2 := s.S[4 * c.val + 2]
        let x3 := s.S[4 * c.val + 3]
        b[4 * c.val] = gfMultiply 14 x0 ^^^ gfMultiply 11 x1 ^^^ gfMultiply 13 x2 ^^^ gfMultiply 9 x3 ∧
        b[4 * c.val + 1] = gfMultiply 9 x0 ^^^ gfMultiply 14 x1 ^^^ gfMultiply 11 x2 ^^^ gfMultiply 13 x3 ∧
        b[4 * c.val + 2] = gfMultiply 13 x0 ^^^ gfMultiply 9 x1 ^^^ gfMultiply 14 x2 ^^^ gfMultiply 11 x3 ∧
        b[4 * c.val + 3] = gfMultiply 11 x0 ^^^ gfMultiply 13 x1 ^^^ gfMultiply 9 x2 ^^^ gfMultiply 14 x3) ∧
  (∀ (s t : State) (c : Fin 4) (x : Byte), s.PAUSED = false → exec .imixc s = .next t →
    (∀ r : Fin 4, byteAt s.S r c = x) → ∀ r : Fin 4, byteAt t.S r c = x) ∧
  (∀ s t : State, s.PAUSED = false → exec .mixc s = .next t → exec .imixc t = .next { s with ERR := .noError }) ∧
  (∀ s t : State, s.PAUSED = false → exec .imixc s = .next t → exec .mixc t = .next { s with ERR := .noError }) ∧
  (∀ s : State, s.PAUSED = true → exec .imixc s = .next { s with ERR := .illegalCommand })

/-- EMIT (R183): and it alone, or a sequence that holds it, writes DOUT, besides reset; a step that changes DOUT for
EMIT puts S there. -/
def Obligations.EmitCopiesState : Prop :=
  encode .emit = 0x070000#24 ∧
  (∀ s : State, s.PAUSED = false → exec .emit s = .next { s with DOUT := s.S, ERR := .noError }) ∧
  (∀ (i : Instr) (s t : State), exec i s = .next t → t.DOUT ≠ s.DOUT → i ∈ [.emit, .enc, .dec, .cont]) ∧
  (∀ s t : State, step s = .next t → t.DOUT ≠ s.DOUT →
    ∃ rest, s.pending = .reset :: rest ∨
      ∃ v i, s.pending = .write 0x000 v :: rest ∧ decode (cmdWord v s.ARGA s.ARGB) = .ok i ∧
        ((i = .emit ∧ t.DOUT = s.S) ∨ i ∈ [.enc, .dec, .cont])) ∧
  (∀ s : State, s.PAUSED = true → exec .emit s = .next { s with ERR := .illegalCommand })

/-- GFMUL (R111). -/
def Obligations.GfmulMultipliesBytes : Prop :=
  (∀ a b : Byte, encode (.gfmul a b) = 0x10#8 ++ a ++ b) ∧
  (∀ (s : State) (a b : Byte), s.PAUSED = false →
    exec (.gfmul a b) s = .next { s with R := gfMultiply a b, ERR := .noError }) ∧
  (∀ (s : State) (a b : Byte), s.PAUSED = true → exec (.gfmul a b) s = .next { s with ERR := .illegalCommand }) ∧
  (∀ a : Byte, gfMultiply a 0 = 0 ∧ gfMultiply 0 a = 0 ∧ gfMultiply a 1 = a ∧ gfMultiply 1 a = a) ∧
  gfMultiply 0x80 0x80 = 0x9A ∧ gfMultiply 0x57 0x13 = 0xFE

/-- SBOX and ISBOX (R122, R126): the table entry goes to R; looking a result up in the other table gives the operand. -/
def Obligations.TableLookupCommands : Prop :=
  (∀ a : Byte, encode (.sbox a) = 0x11#8 ++ a ++ 0x00#8 ∧ encode (.isbox a) = 0x19#8 ++ a ++ 0x00#8) ∧
  (∀ (s : State) (a : Byte), s.PAUSED = false →
    exec (.sbox a) s = .next { s with R := sbox a, ERR := .noError } ∧
    exec (.isbox a) s = .next { s with R := isbox a, ERR := .noError }) ∧
  (∀ (s : State) (a : Byte), s.PAUSED = true →
    exec (.sbox a) s = .next { s with ERR := .illegalCommand } ∧
    exec (.isbox a) s = .next { s with ERR := .illegalCommand }) ∧
  (sbox 0x00 = 0x63 ∧ sbox 0xFF = 0x16 ∧ sbox 0x53 = 0xED ∧ ∀ a : Byte, sbox a = 0x00 ↔ a = 0x52) ∧
  (isbox 0x63 = 0x00 ∧ isbox 0x00 = 0x52 ∧ isbox 0x16 = 0xFF ∧ isbox 0xED = 0x53 ∧ ∀ x : Byte, isbox (sbox x) = x)

/-- CLR (R192): accepted in every state; what it zeroes and what it leaves; twice equals once; after a wrong number of
pushes nothing else but reset brings a length counter back to 0. -/
def Obligations.ClrDiscards : Prop :=
  encode .clr = 0x310000#24 ∧
  (∀ s : State, exec .clr s = .next (afterCipher s.DOUT s)) ∧
  (∀ s t : State, exec .clr s = .next t → exec .clr t = .next t) ∧
  (∀ s t : State, step s = .next t → s.PAUSED = false → s.KLEN ≠ 0 → s.KLEN ≠ 16 → t.KLEN = 0 →
    ∃ rest, s.pending = .reset :: rest ∨ s.pending = .write 0x000 0x31 :: rest) ∧
  (∀ s t : State, step s = .next t → s.PAUSED = false → s.DLEN ≠ 0 → s.DLEN ≠ 16 → t.DLEN = 0 →
    ∃ rest, s.pending = .reset :: rest ∨ s.pending = .write 0x000 0x31 :: rest)

/-! ## The pure functions -/

/-- R140, R141, R142: the three word helpers, byte by byte. -/
def Obligations.WordHelpers : Prop :=
  (∀ t0 t1 t2 t3 : Byte, rotateWord #v[t0, t1, t2, t3] = #v[t1, t2, t3, t0]) ∧
  (∀ (t : Word) (b : Fin 4), (subWord t)[b] = sbox t[b]) ∧
  (∀ (u v : Word) (b : Fin 4), (xorWords u v)[b] = u[b] ^^^ v[b])

/-- R143, byte by byte: the four key words, then the recurrence at every index from 4 to 43. Where i is a multiple of 4
the word before is rotated (byte b is its byte b + 1, mod 4), substituted, and byte 0 takes the round constant. -/
def Obligations.KeyExpansionRecurrence : Prop :=
  ∀ key : Block,
    (∀ (j : Fin 4) (b : Fin 4), (expandKey key)[j.val][b] = key[4 * j.val + b.val]) ∧
    (∀ (i : Nat) (h : i < 44), 4 ≤ i → ∀ b : Fin 4,
      (expandKey key)[i][b] = (expandKey key)[i - 4][b] ^^^
        (if i % 4 = 0 then
          sbox ((expandKey key)[i - 1][(b.val + 1) % 4]'(by omega)) ^^^
            (if b = 0 then rcon ⟨i / 4 - 1, by omega⟩ else 0x00)
        else (expandKey key)[i - 1][b]))

/-- R146: round key k is words 4k to 4k+3 laid end to end, and round key 0 is the key itself. -/
def Obligations.RoundKeyZeroIsKey : Prop :=
  (∀ (w : Schedule) (k : Fin 11) (s : Block) (i : Fin 16),
    (addRoundKey s (roundKeyWords w k))[i] = s[i] ^^^ (w[4 * k.val + i.val / 4]'(by omega))[i.val % 4]'(by omega)) ∧
  (∀ key s : Block, ∀ i : Fin 16, (addRoundKey s (roundKeyWords (expandKey key) 0))[i] = s[i] ^^^ key[i])

/-- The laws of R112 for all bytes. -/
def Obligations.GfMultiplyFieldLaws : Prop :=
  (∀ a b : Byte, gfMultiply a b = gfMultiply b a) ∧
  (∀ a b c : Byte, gfMultiply a (gfMultiply b c) = gfMultiply (gfMultiply a b) c) ∧
  (∀ a b c : Byte, gfMultiply a (b ^^^ c) = gfMultiply a b ^^^ gfMultiply a c) ∧
  (∀ a : Byte, gfMultiply a 0x01 = a) ∧ (∀ a : Byte, gfMultiply a 0x00 = 0x00) ∧
  (∀ a : Byte, gfMultiply a 0x02 = if a.getLsbD 7 then (a <<< 1) ^^^ 0x1B else a <<< 1) ∧
  (∀ a : Byte, a ≠ 0 → ∃ b, gfMultiply a b = 0x01 ∧ ∀ c, gfMultiply a c = 0x01 → c = b)

/-- The meaning R112 gives `gf_multiply`: with a byte read as a polynomial over GF(2), its result is the product modulo
x^8 + x^4 + x^3 + x + 1. -/
def Obligations.GfMultiplyIsPolynomialProduct : Prop :=
  let poly : Byte → Polynomial (ZMod 2) := fun a =>
    ∑ i : Fin 8, if a.getLsbD i.val then (Polynomial.X : Polynomial (ZMod 2)) ^ i.val else 0
  ∀ a b : Byte, ∃ q : Polynomial (ZMod 2),
    poly a * poly b =
      q * (Polynomial.X ^ 8 + Polynomial.X ^ 4 + Polynomial.X ^ 3 + Polynomial.X + 1) + poly (gfMultiply a b)

/-- R124: the two substitution tables are mutual inverses. -/
def Obligations.SubstitutionTablesInverse : Prop :=
  (∀ x : Byte, isbox (sbox x) = x) ∧ (∀ y : Byte, sbox (isbox y) = y)

/-- The construction R121 names as the evidence for the forward table: the affine transform of the inverse under
`gf_multiply`, 0 for 0; and the table has no fixed point. -/
def Obligations.SboxIsAffineOfInverse : Prop :=
  ∀ x : Byte, ∃ y : Byte, (if x = 0 then y = 0 else gfMultiply x y = 1) ∧
    sbox x = y ^^^ y.rotateLeft 1 ^^^ y.rotateLeft 2 ^^^ y.rotateLeft 3 ^^^ y.rotateLeft 4 ^^^ 0x63 ∧ sbox x ≠ x

/-- R127: the ten values, each the double of the one before. -/
def Obligations.RoundConstants : Prop :=
  (rcon 0 = 0x01 ∧ rcon 1 = 0x02 ∧ rcon 2 = 0x04 ∧ rcon 3 = 0x08 ∧ rcon 4 = 0x10 ∧ rcon 5 = 0x20 ∧ rcon 6 = 0x40 ∧
    rcon 7 = 0x80 ∧ rcon 8 = 0x1B ∧ rcon 9 = 0x36) ∧
  (∀ (k : Nat) (h : k + 1 < 10), rcon ⟨k + 1, h⟩ = gfMultiply (rcon ⟨k, by omega⟩) 0x02) ∧
  (∀ k : Fin 10, (rconWord k)[0] = rcon k ∧ (rconWord k)[1] = 0 ∧ (rconWord k)[2] = 0 ∧ (rconWord k)[3] = 0)

/-- R164: the inverse pairs of the State transforms, in both orders, and that SubBytes commutes with ShiftRows. -/
def Obligations.TransformInversePairs : Prop :=
  (∀ (s : Block) (k : Vector Word 4), addRoundKey (addRoundKey s k) k = s) ∧
  (∀ s : Block, inverseSubstituteBytes (substituteBytes s) = s ∧ substituteBytes (inverseSubstituteBytes s) = s) ∧
  (∀ s : Block, inverseShiftRows (shiftRows s) = s ∧ shiftRows (inverseShiftRows s) = s) ∧
  (∀ s : Block, inverseMixColumns (mixColumns s) = s ∧ mixColumns (inverseMixColumns s) = s) ∧
  (∀ s : Block, substituteBytes (shiftRows s) = shiftRows (substituteBytes s))

/-- R165: ARK, SUBB and ISUBB act on each byte alone, SHR and ISHR within a row, MIXC and IMIXC within a column. -/
def Obligations.TransformLanes : Prop :=
  (∀ (s t : Block) (k : Vector Word 4) (i : Fin 16), s[i] = t[i] →
    (addRoundKey s k)[i] = (addRoundKey t k)[i] ∧ (substituteBytes s)[i] = (substituteBytes t)[i] ∧
      (inverseSubstituteBytes s)[i] = (inverseSubstituteBytes t)[i]) ∧
  (∀ (s t : Block) (r : Fin 4), (∀ c, byteAt s r c = byteAt t r c) →
    ∀ c, byteAt (shiftRows s) r c = byteAt (shiftRows t) r c ∧
      byteAt (inverseShiftRows s) r c = byteAt (inverseShiftRows t) r c) ∧
  (∀ (s t : Block) (c : Fin 4), (∀ r, byteAt s r c = byteAt t r c) →
    ∀ r, byteAt (mixColumns s) r c = byteAt (mixColumns t) r c ∧
      byteAt (inverseMixColumns s) r c = byteAt (inverseMixColumns t) r c)

/-- R196: decryption undoes encryption and the other way round, for every block and key. -/
def Obligations.CipherRoundTrip : Prop :=
  ∀ p k : Block, decryptBlock (encryptBlock p k) k = p ∧ encryptBlock (decryptBlock p k) k = p

/-! ## The sequencer -/

/-- The "word" columns of R184 and R185: the command words of the two sequence tables, entries 0 to 43. -/
def Obligations.SequenceTableWords : Prop :=
  encryptionTable.toList.map (fun e => encode (entryInstr e)) =
    [0x010000, 0x020000, 0x030000] ++
      (([1, 2, 3, 4, 5, 6, 7, 8, 9] : List Nat).flatMap fun r =>
        [0x040000, 0x050000, 0x060000, BitVec.ofNat 24 (0x030000 + 0x100 * r)]) ++
      [0x040000, 0x050000, 0x030A00, 0x070000, 0x310000] ∧
  decryptionTable.toList.map (fun e => encode (entryInstr e)) =
    [0x010000, 0x020000, 0x030A00, 0x0D0000, 0x0C0000] ++
      (([9, 8, 7, 6, 5, 4, 3, 2, 1] : List Nat).flatMap fun r =>
        [BitVec.ofNat 24 (0x030000 + 0x100 * r), 0x0E0000, 0x0D0000, 0x0C0000]) ++
      [0x030000, 0x070000, 0x310000]

/-- "Entry n of table 1 (n = 2..41) undoes entry 43 - n of table 0" (R185), and the other way round. -/
def Obligations.DecryptionEntriesUndo : Prop :=
  ∀ (w : Schedule) (p b : Block) (n : Nat) (h : n < 42), 2 ≤ n →
    entryOnBlock w p (entryOnBlock w p b (encryptionTable[43 - n]'(by omega))) decryptionTable[n] = b ∧
    entryOnBlock w p (entryOnBlock w p b decryptionTable[n]) (encryptionTable[43 - n]'(by omega)) = b

/-- "The loop ends after at most 44 entries" (R188): more passes change nothing, whatever the state, and an untraced run
always reaches the last entry, which leaves nothing paused. -/
def Obligations.RunEndsWithin44Entries : Prop :=
  (∀ (s : State) (k : Nat), 44 ≤ k → runLoop k s = runSequence s) ∧
  (∀ s : State, s.TRACE = false → (runSequence s).PAUSED = false ∧ (runSequence s).STEP = 0)

/-- ENC (R189): the errors, before anything is changed; with TRACE = 0 the whole operation; with TRACE = 1 entry 0. -/
def Obligations.EncEncryptsBlock : Prop :=
  encode .enc = 0x200000#24 ∧
  (∀ s : State, s.PAUSED = false → s.KLEN = 16 → s.DLEN = 16 → s.TRACE = false →
    exec .enc s = .next (afterCipher (encryptBlock s.DIN s.KEY) s)) ∧
  (∀ s : State, s.PAUSED = false → s.KLEN = 16 → s.DLEN = 16 → s.TRACE = true →
    exec .enc s = .next { s with S := s.DIN, STEP := 1, PAUSED := true, DIR := .encryption, ERR := .noError }) ∧
  (∀ s : State, s.PAUSED = false → (s.KLEN ≠ 16 ∨ s.DLEN ≠ 16) → exec .enc s = .next { s with ERR := .invalidLength }) ∧
  (∀ s : State, s.PAUSED = true → exec .enc s = .next { s with ERR := .illegalCommand })

/-- DEC (R190): as ENC with `decrypt_block` and DIR = 1 while paused. -/
def Obligations.DecDecryptsBlock : Prop :=
  encode .dec = 0x280000#24 ∧
  (∀ s : State, s.PAUSED = false → s.KLEN = 16 → s.DLEN = 16 → s.TRACE = false →
    exec .dec s = .next (afterCipher (decryptBlock s.DIN s.KEY) s)) ∧
  (∀ s : State, s.PAUSED = false → s.KLEN = 16 → s.DLEN = 16 → s.TRACE = true →
    exec .dec s = .next { s with S := s.DIN, STEP := 1, PAUSED := true, DIR := .decryption, ERR := .noError }) ∧
  (∀ s : State, s.PAUSED = false → (s.KLEN ≠ 16 ∨ s.DLEN ≠ 16) → exec .dec s = .next { s with ERR := .invalidLength }) ∧
  (∀ s : State, s.PAUSED = true → exec .dec s = .next { s with ERR := .illegalCommand })

/-- CONT with TRACE = 1 (R191): exactly the entry at STEP runs, with the effect its command has when the host issues it
(R188); entry 43 ends the sequence as CLR does. CONT with nothing paused is refused. -/
def Obligations.ContRunsOneEntryWhenTraced : Prop :=
  encode .cont = 0x300000#24 ∧
  (∀ s : State, StatusInv s → s.PAUSED = true → s.TRACE = true → ∀ h : s.STEP.val + 1 < 44,
    ∃ t, exec (entryInstr (currentEntry s)) { s with PAUSED := false } = .next t ∧ t.ERR = .noError ∧
      exec .cont s = .next { t with PAUSED := true, STEP := ⟨s.STEP.val + 1, h⟩ }) ∧
  (∀ s : State, s.PAUSED = true → s.STEP = 43 → exec .cont s = .next (afterCipher s.DOUT s)) ∧
  (∀ s : State, s.PAUSED = false → exec .cont s = .next { s with ERR := .illegalCommand })

/-- CONT with TRACE = 0 (R191): "all remaining entries run to the end", from every paused state that meets R197. -/
def Obligations.ContFinishesWhenUntraced : Prop :=
  ∀ s : State, TraceInv s → s.PAUSED = true → s.TRACE = false →
    exec .cont s = .next (afterCipher (cipherOf s.DIR s.DIN s.KEY) s)

/-- R195: once ENC or DEC is accepted, and whatever the host does short of CLR and reset, the first state with nothing
paused holds the cipher's result and zeros; no CONT command is needed for it when TRACE is 0, and 43 are when TRACE
stays 1; and DEC of what ENC gave returns the block. -/
def Obligations.OperationEndsWithCipherResult : Prop :=
  (∀ (s t : State) (d : Direction) (acts : List HostAction) (n : Nat),
    s.PAUSED = false → s.KLEN = 16 → s.DLEN = 16 → s.pending = .write 0x000 (startOp d) :: acts →
    (∀ act ∈ acts, keepsOperation act = true) →
    core.run (n + 1) s = .next t → t.PAUSED = false →
    (∀ m u, m < n → core.run (m + 1) s = .next u → u.PAUSED = true) →
      t.DOUT = cipherOf d s.DIN s.KEY ∧ t.S = zeroBlock ∧ t.W = zeroSchedule ∧ t.KEY = zeroBlock ∧
      t.DIN = zeroBlock ∧ t.KLEN = 0 ∧ t.DLEN = 0 ∧ t.DIR = .encryption ∧ t.STEP = 0) ∧
  (∀ (s : State) (d : Direction) (rest : List HostAction),
    s.PAUSED = false → s.KLEN = 16 → s.DLEN = 16 → s.TRACE = false → s.pending = .write 0x000 (startOp d) :: rest →
      step s = .next { afterCipher (cipherOf d s.DIN s.KEY) s with pending := rest, rdata := none }) ∧
  (∀ (s : State) (d : Direction) (rest : List HostAction),
    s.PAUSED = false → s.KLEN = 16 → s.DLEN = 16 → s.TRACE = true →
    s.pending = .write 0x000 (startOp d) :: (List.replicate 43 (.write 0x000 0x30) ++ rest) →
      core.run 44 s = .next { afterCipher (cipherOf d s.DIN s.KEY) s with pending := rest, rdata := none } ∧
      ∀ m u, m < 43 → core.run (m + 1) s = .next u → u.PAUSED = true ∧ u.STEP.val = m + 1 ∧
        u.S = blockAfter d s.DIN s.KEY (m + 1)) ∧
  (∀ s u : State, s.PAUSED = false → s.KLEN = 16 → s.DLEN = 16 → s.TRACE = false →
    u.PAUSED = false → u.KLEN = 16 → u.DLEN = 16 → u.TRACE = false →
    ∀ t, exec .enc s = .next t → u.DIN = t.DOUT → u.KEY = s.KEY →
      ∃ v, exec .dec u = .next v ∧ v.DOUT = s.DIN)
end

