-- ==== Sys2Proof/Laws/State.lean ====
section
/-! SUPPORT. One lemma per field per update of the state, true by rfl, so that no proof unfolds a record update. -/

namespace Sys2Proof.Machine

variable (s : State)

/-! setS -/

@[simp] theorem State.setS_S (b : Block) : (s.setS b).S = b := rfl
@[simp] theorem State.setS_W (b : Block) : (s.setS b).W = s.W := rfl
@[simp] theorem State.setS_KEY (b : Block) : (s.setS b).KEY = s.KEY := rfl
@[simp] theorem State.setS_KLEN (b : Block) : (s.setS b).KLEN = s.KLEN := rfl
@[simp] theorem State.setS_DIN (b : Block) : (s.setS b).DIN = s.DIN := rfl
@[simp] theorem State.setS_DLEN (b : Block) : (s.setS b).DLEN = s.DLEN := rfl
@[simp] theorem State.setS_DOUT (b : Block) : (s.setS b).DOUT = s.DOUT := rfl
@[simp] theorem State.setS_R (b : Block) : (s.setS b).R = s.R := rfl
@[simp] theorem State.setS_ARGA (b : Block) : (s.setS b).ARGA = s.ARGA := rfl
@[simp] theorem State.setS_ARGB (b : Block) : (s.setS b).ARGB = s.ARGB := rfl
@[simp] theorem State.setS_TRACE (b : Block) : (s.setS b).TRACE = s.TRACE := rfl
@[simp] theorem State.setS_PAUSED (b : Block) : (s.setS b).PAUSED = s.PAUSED := rfl
@[simp] theorem State.setS_DIR (b : Block) : (s.setS b).DIR = s.DIR := rfl
@[simp] theorem State.setS_ERR (b : Block) : (s.setS b).ERR = s.ERR := rfl
@[simp] theorem State.setS_STEP (b : Block) : (s.setS b).STEP = s.STEP := rfl
@[simp] theorem State.setS_pending (b : Block) : (s.setS b).pending = s.pending := rfl
@[simp] theorem State.setS_rdata (b : Block) : (s.setS b).rdata = s.rdata := rfl

/-! setW -/

@[simp] theorem State.setW_S (w : Schedule) : (s.setW w).S = s.S := rfl
@[simp] theorem State.setW_W (w : Schedule) : (s.setW w).W = w := rfl
@[simp] theorem State.setW_KEY (w : Schedule) : (s.setW w).KEY = s.KEY := rfl
@[simp] theorem State.setW_KLEN (w : Schedule) : (s.setW w).KLEN = s.KLEN := rfl
@[simp] theorem State.setW_DIN (w : Schedule) : (s.setW w).DIN = s.DIN := rfl
@[simp] theorem State.setW_DLEN (w : Schedule) : (s.setW w).DLEN = s.DLEN := rfl
@[simp] theorem State.setW_DOUT (w : Schedule) : (s.setW w).DOUT = s.DOUT := rfl
@[simp] theorem State.setW_R (w : Schedule) : (s.setW w).R = s.R := rfl
@[simp] theorem State.setW_ARGA (w : Schedule) : (s.setW w).ARGA = s.ARGA := rfl
@[simp] theorem State.setW_ARGB (w : Schedule) : (s.setW w).ARGB = s.ARGB := rfl
@[simp] theorem State.setW_TRACE (w : Schedule) : (s.setW w).TRACE = s.TRACE := rfl
@[simp] theorem State.setW_PAUSED (w : Schedule) : (s.setW w).PAUSED = s.PAUSED := rfl
@[simp] theorem State.setW_DIR (w : Schedule) : (s.setW w).DIR = s.DIR := rfl
@[simp] theorem State.setW_ERR (w : Schedule) : (s.setW w).ERR = s.ERR := rfl
@[simp] theorem State.setW_STEP (w : Schedule) : (s.setW w).STEP = s.STEP := rfl
@[simp] theorem State.setW_pending (w : Schedule) : (s.setW w).pending = s.pending := rfl
@[simp] theorem State.setW_rdata (w : Schedule) : (s.setW w).rdata = s.rdata := rfl

/-! setDOUT -/

@[simp] theorem State.setDOUT_S (b : Block) : (s.setDOUT b).S = s.S := rfl
@[simp] theorem State.setDOUT_W (b : Block) : (s.setDOUT b).W = s.W := rfl
@[simp] theorem State.setDOUT_KEY (b : Block) : (s.setDOUT b).KEY = s.KEY := rfl
@[simp] theorem State.setDOUT_KLEN (b : Block) : (s.setDOUT b).KLEN = s.KLEN := rfl
@[simp] theorem State.setDOUT_DIN (b : Block) : (s.setDOUT b).DIN = s.DIN := rfl
@[simp] theorem State.setDOUT_DLEN (b : Block) : (s.setDOUT b).DLEN = s.DLEN := rfl
@[simp] theorem State.setDOUT_DOUT (b : Block) : (s.setDOUT b).DOUT = b := rfl
@[simp] theorem State.setDOUT_R (b : Block) : (s.setDOUT b).R = s.R := rfl
@[simp] theorem State.setDOUT_ARGA (b : Block) : (s.setDOUT b).ARGA = s.ARGA := rfl
@[simp] theorem State.setDOUT_ARGB (b : Block) : (s.setDOUT b).ARGB = s.ARGB := rfl
@[simp] theorem State.setDOUT_TRACE (b : Block) : (s.setDOUT b).TRACE = s.TRACE := rfl
@[simp] theorem State.setDOUT_PAUSED (b : Block) : (s.setDOUT b).PAUSED = s.PAUSED := rfl
@[simp] theorem State.setDOUT_DIR (b : Block) : (s.setDOUT b).DIR = s.DIR := rfl
@[simp] theorem State.setDOUT_ERR (b : Block) : (s.setDOUT b).ERR = s.ERR := rfl
@[simp] theorem State.setDOUT_STEP (b : Block) : (s.setDOUT b).STEP = s.STEP := rfl
@[simp] theorem State.setDOUT_pending (b : Block) : (s.setDOUT b).pending = s.pending := rfl
@[simp] theorem State.setDOUT_rdata (b : Block) : (s.setDOUT b).rdata = s.rdata := rfl

/-! setR -/

@[simp] theorem State.setR_S (v : Byte) : (s.setR v).S = s.S := rfl
@[simp] theorem State.setR_W (v : Byte) : (s.setR v).W = s.W := rfl
@[simp] theorem State.setR_KEY (v : Byte) : (s.setR v).KEY = s.KEY := rfl
@[simp] theorem State.setR_KLEN (v : Byte) : (s.setR v).KLEN = s.KLEN := rfl
@[simp] theorem State.setR_DIN (v : Byte) : (s.setR v).DIN = s.DIN := rfl
@[simp] theorem State.setR_DLEN (v : Byte) : (s.setR v).DLEN = s.DLEN := rfl
@[simp] theorem State.setR_DOUT (v : Byte) : (s.setR v).DOUT = s.DOUT := rfl
@[simp] theorem State.setR_R (v : Byte) : (s.setR v).R = v := rfl
@[simp] theorem State.setR_ARGA (v : Byte) : (s.setR v).ARGA = s.ARGA := rfl
@[simp] theorem State.setR_ARGB (v : Byte) : (s.setR v).ARGB = s.ARGB := rfl
@[simp] theorem State.setR_TRACE (v : Byte) : (s.setR v).TRACE = s.TRACE := rfl
@[simp] theorem State.setR_PAUSED (v : Byte) : (s.setR v).PAUSED = s.PAUSED := rfl
@[simp] theorem State.setR_DIR (v : Byte) : (s.setR v).DIR = s.DIR := rfl
@[simp] theorem State.setR_ERR (v : Byte) : (s.setR v).ERR = s.ERR := rfl
@[simp] theorem State.setR_STEP (v : Byte) : (s.setR v).STEP = s.STEP := rfl
@[simp] theorem State.setR_pending (v : Byte) : (s.setR v).pending = s.pending := rfl
@[simp] theorem State.setR_rdata (v : Byte) : (s.setR v).rdata = s.rdata := rfl

/-! setERR -/

@[simp] theorem State.setERR_S (e : ErrCode) : (s.setERR e).S = s.S := rfl
@[simp] theorem State.setERR_W (e : ErrCode) : (s.setERR e).W = s.W := rfl
@[simp] theorem State.setERR_KEY (e : ErrCode) : (s.setERR e).KEY = s.KEY := rfl
@[simp] theorem State.setERR_KLEN (e : ErrCode) : (s.setERR e).KLEN = s.KLEN := rfl
@[simp] theorem State.setERR_DIN (e : ErrCode) : (s.setERR e).DIN = s.DIN := rfl
@[simp] theorem State.setERR_DLEN (e : ErrCode) : (s.setERR e).DLEN = s.DLEN := rfl
@[simp] theorem State.setERR_DOUT (e : ErrCode) : (s.setERR e).DOUT = s.DOUT := rfl
@[simp] theorem State.setERR_R (e : ErrCode) : (s.setERR e).R = s.R := rfl
@[simp] theorem State.setERR_ARGA (e : ErrCode) : (s.setERR e).ARGA = s.ARGA := rfl
@[simp] theorem State.setERR_ARGB (e : ErrCode) : (s.setERR e).ARGB = s.ARGB := rfl
@[simp] theorem State.setERR_TRACE (e : ErrCode) : (s.setERR e).TRACE = s.TRACE := rfl
@[simp] theorem State.setERR_PAUSED (e : ErrCode) : (s.setERR e).PAUSED = s.PAUSED := rfl
@[simp] theorem State.setERR_DIR (e : ErrCode) : (s.setERR e).DIR = s.DIR := rfl
@[simp] theorem State.setERR_ERR (e : ErrCode) : (s.setERR e).ERR = e := rfl
@[simp] theorem State.setERR_STEP (e : ErrCode) : (s.setERR e).STEP = s.STEP := rfl
@[simp] theorem State.setERR_pending (e : ErrCode) : (s.setERR e).pending = s.pending := rfl
@[simp] theorem State.setERR_rdata (e : ErrCode) : (s.setERR e).rdata = s.rdata := rfl

/-! setSTEP -/

@[simp] theorem State.setSTEP_S (n : Fin 44) : (s.setSTEP n).S = s.S := rfl
@[simp] theorem State.setSTEP_W (n : Fin 44) : (s.setSTEP n).W = s.W := rfl
@[simp] theorem State.setSTEP_KEY (n : Fin 44) : (s.setSTEP n).KEY = s.KEY := rfl
@[simp] theorem State.setSTEP_KLEN (n : Fin 44) : (s.setSTEP n).KLEN = s.KLEN := rfl
@[simp] theorem State.setSTEP_DIN (n : Fin 44) : (s.setSTEP n).DIN = s.DIN := rfl
@[simp] theorem State.setSTEP_DLEN (n : Fin 44) : (s.setSTEP n).DLEN = s.DLEN := rfl
@[simp] theorem State.setSTEP_DOUT (n : Fin 44) : (s.setSTEP n).DOUT = s.DOUT := rfl
@[simp] theorem State.setSTEP_R (n : Fin 44) : (s.setSTEP n).R = s.R := rfl
@[simp] theorem State.setSTEP_ARGA (n : Fin 44) : (s.setSTEP n).ARGA = s.ARGA := rfl
@[simp] theorem State.setSTEP_ARGB (n : Fin 44) : (s.setSTEP n).ARGB = s.ARGB := rfl
@[simp] theorem State.setSTEP_TRACE (n : Fin 44) : (s.setSTEP n).TRACE = s.TRACE := rfl
@[simp] theorem State.setSTEP_PAUSED (n : Fin 44) : (s.setSTEP n).PAUSED = s.PAUSED := rfl
@[simp] theorem State.setSTEP_DIR (n : Fin 44) : (s.setSTEP n).DIR = s.DIR := rfl
@[simp] theorem State.setSTEP_ERR (n : Fin 44) : (s.setSTEP n).ERR = s.ERR := rfl
@[simp] theorem State.setSTEP_STEP (n : Fin 44) : (s.setSTEP n).STEP = n := rfl
@[simp] theorem State.setSTEP_pending (n : Fin 44) : (s.setSTEP n).pending = s.pending := rfl
@[simp] theorem State.setSTEP_rdata (n : Fin 44) : (s.setSTEP n).rdata = s.rdata := rfl

/-! setARGA -/

@[simp] theorem State.setARGA_S (v : Byte) : (s.setARGA v).S = s.S := rfl
@[simp] theorem State.setARGA_W (v : Byte) : (s.setARGA v).W = s.W := rfl
@[simp] theorem State.setARGA_KEY (v : Byte) : (s.setARGA v).KEY = s.KEY := rfl
@[simp] theorem State.setARGA_KLEN (v : Byte) : (s.setARGA v).KLEN = s.KLEN := rfl
@[simp] theorem State.setARGA_DIN (v : Byte) : (s.setARGA v).DIN = s.DIN := rfl
@[simp] theorem State.setARGA_DLEN (v : Byte) : (s.setARGA v).DLEN = s.DLEN := rfl
@[simp] theorem State.setARGA_DOUT (v : Byte) : (s.setARGA v).DOUT = s.DOUT := rfl
@[simp] theorem State.setARGA_R (v : Byte) : (s.setARGA v).R = s.R := rfl
@[simp] theorem State.setARGA_ARGA (v : Byte) : (s.setARGA v).ARGA = v := rfl
@[simp] theorem State.setARGA_ARGB (v : Byte) : (s.setARGA v).ARGB = s.ARGB := rfl
@[simp] theorem State.setARGA_TRACE (v : Byte) : (s.setARGA v).TRACE = s.TRACE := rfl
@[simp] theorem State.setARGA_PAUSED (v : Byte) : (s.setARGA v).PAUSED = s.PAUSED := rfl
@[simp] theorem State.setARGA_DIR (v : Byte) : (s.setARGA v).DIR = s.DIR := rfl
@[simp] theorem State.setARGA_ERR (v : Byte) : (s.setARGA v).ERR = s.ERR := rfl
@[simp] theorem State.setARGA_STEP (v : Byte) : (s.setARGA v).STEP = s.STEP := rfl
@[simp] theorem State.setARGA_pending (v : Byte) : (s.setARGA v).pending = s.pending := rfl
@[simp] theorem State.setARGA_rdata (v : Byte) : (s.setARGA v).rdata = s.rdata := rfl

/-! setARGB -/

@[simp] theorem State.setARGB_S (v : Byte) : (s.setARGB v).S = s.S := rfl
@[simp] theorem State.setARGB_W (v : Byte) : (s.setARGB v).W = s.W := rfl
@[simp] theorem State.setARGB_KEY (v : Byte) : (s.setARGB v).KEY = s.KEY := rfl
@[simp] theorem State.setARGB_KLEN (v : Byte) : (s.setARGB v).KLEN = s.KLEN := rfl
@[simp] theorem State.setARGB_DIN (v : Byte) : (s.setARGB v).DIN = s.DIN := rfl
@[simp] theorem State.setARGB_DLEN (v : Byte) : (s.setARGB v).DLEN = s.DLEN := rfl
@[simp] theorem State.setARGB_DOUT (v : Byte) : (s.setARGB v).DOUT = s.DOUT := rfl
@[simp] theorem State.setARGB_R (v : Byte) : (s.setARGB v).R = s.R := rfl
@[simp] theorem State.setARGB_ARGA (v : Byte) : (s.setARGB v).ARGA = s.ARGA := rfl
@[simp] theorem State.setARGB_ARGB (v : Byte) : (s.setARGB v).ARGB = v := rfl
@[simp] theorem State.setARGB_TRACE (v : Byte) : (s.setARGB v).TRACE = s.TRACE := rfl
@[simp] theorem State.setARGB_PAUSED (v : Byte) : (s.setARGB v).PAUSED = s.PAUSED := rfl
@[simp] theorem State.setARGB_DIR (v : Byte) : (s.setARGB v).DIR = s.DIR := rfl
@[simp] theorem State.setARGB_ERR (v : Byte) : (s.setARGB v).ERR = s.ERR := rfl
@[simp] theorem State.setARGB_STEP (v : Byte) : (s.setARGB v).STEP = s.STEP := rfl
@[simp] theorem State.setARGB_pending (v : Byte) : (s.setARGB v).pending = s.pending := rfl
@[simp] theorem State.setARGB_rdata (v : Byte) : (s.setARGB v).rdata = s.rdata := rfl

/-! setCTRL -/

@[simp] theorem State.setCTRL_S (v : Byte) : (s.setCTRL v).S = s.S := rfl
@[simp] theorem State.setCTRL_W (v : Byte) : (s.setCTRL v).W = s.W := rfl
@[simp] theorem State.setCTRL_KEY (v : Byte) : (s.setCTRL v).KEY = s.KEY := rfl
@[simp] theorem State.setCTRL_KLEN (v : Byte) : (s.setCTRL v).KLEN = s.KLEN := rfl
@[simp] theorem State.setCTRL_DIN (v : Byte) : (s.setCTRL v).DIN = s.DIN := rfl
@[simp] theorem State.setCTRL_DLEN (v : Byte) : (s.setCTRL v).DLEN = s.DLEN := rfl
@[simp] theorem State.setCTRL_DOUT (v : Byte) : (s.setCTRL v).DOUT = s.DOUT := rfl
@[simp] theorem State.setCTRL_R (v : Byte) : (s.setCTRL v).R = s.R := rfl
@[simp] theorem State.setCTRL_ARGA (v : Byte) : (s.setCTRL v).ARGA = s.ARGA := rfl
@[simp] theorem State.setCTRL_ARGB (v : Byte) : (s.setCTRL v).ARGB = s.ARGB := rfl
@[simp] theorem State.setCTRL_TRACE (v : Byte) : (s.setCTRL v).TRACE = v.getLsbD 0 := rfl
@[simp] theorem State.setCTRL_PAUSED (v : Byte) : (s.setCTRL v).PAUSED = s.PAUSED := rfl
@[simp] theorem State.setCTRL_DIR (v : Byte) : (s.setCTRL v).DIR = s.DIR := rfl
@[simp] theorem State.setCTRL_ERR (v : Byte) : (s.setCTRL v).ERR = s.ERR := rfl
@[simp] theorem State.setCTRL_STEP (v : Byte) : (s.setCTRL v).STEP = s.STEP := rfl
@[simp] theorem State.setCTRL_pending (v : Byte) : (s.setCTRL v).pending = s.pending := rfl
@[simp] theorem State.setCTRL_rdata (v : Byte) : (s.setCTRL v).rdata = s.rdata := rfl

/-! beginSequence -/

@[simp] theorem State.beginSequence_S (d : Direction) : (s.beginSequence d).S = s.S := rfl
@[simp] theorem State.beginSequence_W (d : Direction) : (s.beginSequence d).W = s.W := rfl
@[simp] theorem State.beginSequence_KEY (d : Direction) : (s.beginSequence d).KEY = s.KEY := rfl
@[simp] theorem State.beginSequence_KLEN (d : Direction) : (s.beginSequence d).KLEN = s.KLEN := rfl
@[simp] theorem State.beginSequence_DIN (d : Direction) : (s.beginSequence d).DIN = s.DIN := rfl
@[simp] theorem State.beginSequence_DLEN (d : Direction) : (s.beginSequence d).DLEN = s.DLEN := rfl
@[simp] theorem State.beginSequence_DOUT (d : Direction) : (s.beginSequence d).DOUT = s.DOUT := rfl
@[simp] theorem State.beginSequence_R (d : Direction) : (s.beginSequence d).R = s.R := rfl
@[simp] theorem State.beginSequence_ARGA (d : Direction) : (s.beginSequence d).ARGA = s.ARGA := rfl
@[simp] theorem State.beginSequence_ARGB (d : Direction) : (s.beginSequence d).ARGB = s.ARGB := rfl
@[simp] theorem State.beginSequence_TRACE (d : Direction) : (s.beginSequence d).TRACE = s.TRACE := rfl
@[simp] theorem State.beginSequence_PAUSED (d : Direction) : (s.beginSequence d).PAUSED = true := rfl
@[simp] theorem State.beginSequence_DIR (d : Direction) : (s.beginSequence d).DIR = d := rfl
@[simp] theorem State.beginSequence_ERR (d : Direction) : (s.beginSequence d).ERR = s.ERR := rfl
@[simp] theorem State.beginSequence_STEP (d : Direction) : (s.beginSequence d).STEP = 0 := rfl
@[simp] theorem State.beginSequence_pending (d : Direction) : (s.beginSequence d).pending = s.pending := rfl
@[simp] theorem State.beginSequence_rdata (d : Direction) : (s.beginSequence d).rdata = s.rdata := rfl

/-! clear -/

@[simp] theorem State.clear_S : (s.clear).S = Vector.replicate 16 0 := rfl
@[simp] theorem State.clear_W : (s.clear).W = Vector.replicate 44 (Vector.replicate 4 0) := rfl
@[simp] theorem State.clear_KEY : (s.clear).KEY = Vector.replicate 16 0 := rfl
@[simp] theorem State.clear_KLEN : (s.clear).KLEN = 0 := rfl
@[simp] theorem State.clear_DIN : (s.clear).DIN = Vector.replicate 16 0 := rfl
@[simp] theorem State.clear_DLEN : (s.clear).DLEN = 0 := rfl
@[simp] theorem State.clear_DOUT : (s.clear).DOUT = s.DOUT := rfl
@[simp] theorem State.clear_R : (s.clear).R = s.R := rfl
@[simp] theorem State.clear_ARGA : (s.clear).ARGA = s.ARGA := rfl
@[simp] theorem State.clear_ARGB : (s.clear).ARGB = s.ARGB := rfl
@[simp] theorem State.clear_TRACE : (s.clear).TRACE = s.TRACE := rfl
@[simp] theorem State.clear_PAUSED : (s.clear).PAUSED = false := rfl
@[simp] theorem State.clear_DIR : (s.clear).DIR = .encryption := rfl
@[simp] theorem State.clear_ERR : (s.clear).ERR = s.ERR := rfl
@[simp] theorem State.clear_STEP : (s.clear).STEP = 0 := rfl
@[simp] theorem State.clear_pending : (s.clear).pending = s.pending := rfl
@[simp] theorem State.clear_rdata : (s.clear).rdata = s.rdata := rfl

/-! takeAction -/

@[simp] theorem State.takeAction_S (rest : List HostAction) : (s.takeAction rest).S = s.S := rfl
@[simp] theorem State.takeAction_W (rest : List HostAction) : (s.takeAction rest).W = s.W := rfl
@[simp] theorem State.takeAction_KEY (rest : List HostAction) : (s.takeAction rest).KEY = s.KEY := rfl
@[simp] theorem State.takeAction_KLEN (rest : List HostAction) : (s.takeAction rest).KLEN = s.KLEN := rfl
@[simp] theorem State.takeAction_DIN (rest : List HostAction) : (s.takeAction rest).DIN = s.DIN := rfl
@[simp] theorem State.takeAction_DLEN (rest : List HostAction) : (s.takeAction rest).DLEN = s.DLEN := rfl
@[simp] theorem State.takeAction_DOUT (rest : List HostAction) : (s.takeAction rest).DOUT = s.DOUT := rfl
@[simp] theorem State.takeAction_R (rest : List HostAction) : (s.takeAction rest).R = s.R := rfl
@[simp] theorem State.takeAction_ARGA (rest : List HostAction) : (s.takeAction rest).ARGA = s.ARGA := rfl
@[simp] theorem State.takeAction_ARGB (rest : List HostAction) : (s.takeAction rest).ARGB = s.ARGB := rfl
@[simp] theorem State.takeAction_TRACE (rest : List HostAction) : (s.takeAction rest).TRACE = s.TRACE := rfl
@[simp] theorem State.takeAction_PAUSED (rest : List HostAction) : (s.takeAction rest).PAUSED = s.PAUSED := rfl
@[simp] theorem State.takeAction_DIR (rest : List HostAction) : (s.takeAction rest).DIR = s.DIR := rfl
@[simp] theorem State.takeAction_ERR (rest : List HostAction) : (s.takeAction rest).ERR = s.ERR := rfl
@[simp] theorem State.takeAction_STEP (rest : List HostAction) : (s.takeAction rest).STEP = s.STEP := rfl
@[simp] theorem State.takeAction_pending (rest : List HostAction) : (s.takeAction rest).pending = rest := rfl
@[simp] theorem State.takeAction_rdata (rest : List HostAction) : (s.takeAction rest).rdata = none := rfl

/-! answerRead -/

@[simp] theorem State.answerRead_S (a : Addr) : (s.answerRead a).S = s.S := rfl
@[simp] theorem State.answerRead_W (a : Addr) : (s.answerRead a).W = s.W := rfl
@[simp] theorem State.answerRead_KEY (a : Addr) : (s.answerRead a).KEY = s.KEY := rfl
@[simp] theorem State.answerRead_KLEN (a : Addr) : (s.answerRead a).KLEN = s.KLEN := rfl
@[simp] theorem State.answerRead_DIN (a : Addr) : (s.answerRead a).DIN = s.DIN := rfl
@[simp] theorem State.answerRead_DLEN (a : Addr) : (s.answerRead a).DLEN = s.DLEN := rfl
@[simp] theorem State.answerRead_DOUT (a : Addr) : (s.answerRead a).DOUT = s.DOUT := rfl
@[simp] theorem State.answerRead_R (a : Addr) : (s.answerRead a).R = s.R := rfl
@[simp] theorem State.answerRead_ARGA (a : Addr) : (s.answerRead a).ARGA = s.ARGA := rfl
@[simp] theorem State.answerRead_ARGB (a : Addr) : (s.answerRead a).ARGB = s.ARGB := rfl
@[simp] theorem State.answerRead_TRACE (a : Addr) : (s.answerRead a).TRACE = s.TRACE := rfl
@[simp] theorem State.answerRead_PAUSED (a : Addr) : (s.answerRead a).PAUSED = s.PAUSED := rfl
@[simp] theorem State.answerRead_DIR (a : Addr) : (s.answerRead a).DIR = s.DIR := rfl
@[simp] theorem State.answerRead_ERR (a : Addr) : (s.answerRead a).ERR = s.ERR := rfl
@[simp] theorem State.answerRead_STEP (a : Addr) : (s.answerRead a).STEP = s.STEP := rfl
@[simp] theorem State.answerRead_pending (a : Addr) : (s.answerRead a).pending = s.pending := rfl
@[simp] theorem State.answerRead_rdata (a : Addr) : (s.answerRead a).rdata = some (busRead s a) := rfl

/-! resetCore -/

@[simp] theorem State.resetCore_S : (s.resetCore).S = State.reset.S := rfl
@[simp] theorem State.resetCore_W : (s.resetCore).W = State.reset.W := rfl
@[simp] theorem State.resetCore_KEY : (s.resetCore).KEY = State.reset.KEY := rfl
@[simp] theorem State.resetCore_KLEN : (s.resetCore).KLEN = State.reset.KLEN := rfl
@[simp] theorem State.resetCore_DIN : (s.resetCore).DIN = State.reset.DIN := rfl
@[simp] theorem State.resetCore_DLEN : (s.resetCore).DLEN = State.reset.DLEN := rfl
@[simp] theorem State.resetCore_DOUT : (s.resetCore).DOUT = State.reset.DOUT := rfl
@[simp] theorem State.resetCore_R : (s.resetCore).R = State.reset.R := rfl
@[simp] theorem State.resetCore_ARGA : (s.resetCore).ARGA = State.reset.ARGA := rfl
@[simp] theorem State.resetCore_ARGB : (s.resetCore).ARGB = State.reset.ARGB := rfl
@[simp] theorem State.resetCore_TRACE : (s.resetCore).TRACE = State.reset.TRACE := rfl
@[simp] theorem State.resetCore_PAUSED : (s.resetCore).PAUSED = State.reset.PAUSED := rfl
@[simp] theorem State.resetCore_DIR : (s.resetCore).DIR = State.reset.DIR := rfl
@[simp] theorem State.resetCore_ERR : (s.resetCore).ERR = State.reset.ERR := rfl
@[simp] theorem State.resetCore_STEP : (s.resetCore).STEP = State.reset.STEP := rfl
@[simp] theorem State.resetCore_pending : (s.resetCore).pending = s.pending := rfl
@[simp] theorem State.resetCore_rdata : (s.resetCore).rdata = State.reset.rdata := rfl

end Sys2Proof.Machine
end

