-- ==== Sys2Proof/Laws/Ops.lean ====
section
/-! SUPPORT. What the shared operations of Machine/Ops.lean and Machine/Flags.lean can do, each said once. -/

namespace Sys2Proof.Machine

@[simp] theorem firstError_nil : firstError [] = .noError := rfl

@[simp] theorem firstError_noError (rest : List ErrCode) : firstError (.noError :: rest) = firstError rest := rfl

@[simp] theorem firstError_invalidLength (rest : List ErrCode) :
    firstError (.invalidLength :: rest) = .invalidLength := rfl

@[simp] theorem firstError_illegalCommand (rest : List ErrCode) :
    firstError (.illegalCommand :: rest) = .illegalCommand := rfl

/-- The one accepted length, as a value of the counter. -/
@[simp] theorem rightLength_eq_true (n : BitVec 5) : rightLength n = true ↔ n = 16 := by
  revert n; decide

@[simp] theorem rightLength_eq_false (n : BitVec 5) : rightLength n = false ↔ n ≠ 16 := by
  revert n; decide

@[simp] theorem countUp_toNat (n : BitVec 5) : (countUp n).toNat = min (n.toNat + 1) 31 := by
  revert n; decide

theorem countUp_ne_zero (n : BitVec 5) : countUp n ≠ 0 := by
  revert n; decide

theorem checkIdle_cases (s : State) :
    (s.PAUSED = false ∧ checkIdle s = .noError) ∨ (s.PAUSED = true ∧ checkIdle s = .illegalCommand) := by
  unfold checkIdle; cases s.PAUSED <;> simp

theorem checkIdle_of_idle {s : State} (h : s.PAUSED = false) : checkIdle s = .noError := by simp [checkIdle, h]

theorem checkIdle_of_paused {s : State} (h : s.PAUSED = true) : checkIdle s = .illegalCommand := by
  simp [checkIdle, h]

theorem checkPaused_of_idle {s : State} (h : s.PAUSED = false) : checkPaused s = .illegalCommand := by
  simp [checkPaused, h]

theorem checkPaused_of_paused {s : State} (h : s.PAUSED = true) : checkPaused s = .noError := by
  simp [checkPaused, h]

theorem checkBlockLength_of_right {s : State} (h : s.DLEN = 16) : checkBlockLength s = .noError := by
  simp [checkBlockLength, h]

theorem checkBlockLength_of_wrong {s : State} (h : s.DLEN ≠ 16) : checkBlockLength s = .invalidLength := by
  rw [← rightLength_eq_false] at h
  simp [checkBlockLength, h]

theorem checkKeyLength_of_right {s : State} (h : s.KLEN = 16) : checkKeyLength s = .noError := by
  simp [checkKeyLength, h]

theorem checkKeyLength_of_wrong {s : State} (h : s.KLEN ≠ 16) : checkKeyLength s = .invalidLength := by
  rw [← rightLength_eq_false] at h
  simp [checkKeyLength, h]

/-- Everything issuing a command can do: accept it, or raise the first failed check's error. -/
theorem issue_cases (checks : List ErrCode) (effect : State → State) (s : State) :
    (firstError checks = .noError ∧ issue checks effect s = .next (accept effect s)) ∨
    (firstError checks ≠ .noError ∧ issue checks effect s = .next (raiseError (firstError checks) s)) := by
  unfold issue
  cases h : firstError checks <;> simp

theorem issue_accepts {checks : List ErrCode} (h : firstError checks = .noError) (effect : State → State)
    (s : State) : issue checks effect s = .next (accept effect s) := by
  simp [issue, h]

theorem issue_refuses {checks : List ErrCode} {e : ErrCode} (h : firstError checks = e) (he : e ≠ .noError)
    (effect : State → State) (s : State) : issue checks effect s = .next (raiseError e s) := by
  subst h
  exact ((issue_cases checks effect s).resolve_left fun hn => he hn.1).2

/-- An error changes ERR alone (R224). -/
theorem raiseError_eq (e : ErrCode) (s : State) : raiseError e s = { s with ERR := e } := rfl

theorem accept_eq (effect : State → State) (s : State) : accept effect s = { effect s with ERR := .noError } := rfl

/-- One byte of a push buffer after a push. -/
theorem storePushed_getElem (buf : Block) (n : BitVec 5) (v : Byte) (i : Fin 16) :
    (storePushed buf n v)[i] = if i.val = n.toNat then v else buf[i] := by
  unfold storePushed
  split
  · simp only [Fin.getElem_fin, Vector.getElem_set, eq_comm]
  · rename_i h
    have : i.val ≠ n.toNat := fun e => h (e ▸ i.isLt)
    simp [this]

/-- Everything a push to KEY_PUSH can do (R69). -/
theorem pushKey_cases (v : Byte) (s : State) :
    (s.PAUSED = true ∧ s.pushKey v = s) ∨
    (s.PAUSED = false ∧ s.pushKey v = { s with KEY := storePushed s.KEY s.KLEN v, KLEN := countUp s.KLEN }) := by
  unfold State.pushKey; cases s.PAUSED <;> simp

/-- Everything a push to DIN_PUSH can do (R70). -/
theorem pushDin_cases (v : Byte) (s : State) :
    (s.PAUSED = true ∧ s.pushDin v = s) ∨
    (s.PAUSED = false ∧ s.pushDin v = { s with DIN := storePushed s.DIN s.DLEN v, DLEN := countUp s.DLEN }) := by
  unfold State.pushDin; cases s.PAUSED <;> simp

/-- Everything a write to an address other than CMD can do (R61). -/
theorem writeRegister_cases (a : Addr) (v : Byte) (s : State) :
    (a = 0x001 ∧ writeRegister a v s = s.setARGA v) ∨ (a = 0x002 ∧ writeRegister a v s = s.setARGB v) ∨
    (a = 0x003 ∧ writeRegister a v s = s.setCTRL v) ∨ (a = 0x009 ∧ writeRegister a v s = s.pushKey v) ∨
    (a = 0x00A ∧ writeRegister a v s = s.pushDin v) ∨
    (a ≠ 0x001 ∧ a ≠ 0x002 ∧ a ≠ 0x003 ∧ a ≠ 0x009 ∧ a ≠ 0x00A ∧ writeRegister a v s = s) := by
  unfold writeRegister
  split <;> simp_all

end Sys2Proof.Machine
end

