-- ==== Sys2Proof/Laws/Sequence.lean ====
section
/-! SUPPORT. What one sequence entry and one run of the sequencer can do. -/

namespace Sys2Proof.Machine

@[simp] theorem State.transformS_eq (f : Block → Block) (s : State) : s.transformS f = s.setS (f s.S) := rfl

@[simp] theorem State.addKey_eq (k : Fin 11) (s : State) :
    s.addKey k = s.setS (addRoundKey s.S (roundKeyWords s.W k)) := rfl

@[simp] theorem State.expandSchedule_eq (s : State) : s.expandSchedule = s.setW (expandKey s.KEY) := rfl

@[simp] theorem State.loadBlock_eq (s : State) : s.loadBlock = s.setS s.DIN := rfl

@[simp] theorem State.emitBlock_eq (s : State) : s.emitBlock = s.setDOUT s.S := rfl

/-- Everything an entry can write: CLR clears, the others write S, W or DOUT alone. -/
theorem performEntry_cases (e : Entry) (s : State) :
    (e = .clr ∧ performEntry e s = s.clear) ∨
    (e ≠ .clr ∧ performEntry e s =
      { s with S := (performEntry e s).S, W := (performEntry e s).W, DOUT := (performEntry e s).DOUT }) := by
  cases e <;> simp [performEntry, State.setS, State.setW, State.setDOUT]

/-- CLR stands at index 43 of both tables and nowhere else (R184, R185). -/
theorem entryAt_clr_iff (d : Direction) (n : Fin 44) : entryAt d n = .clr ↔ n = 43 := by
  cases d <;> revert n <;> decide

theorem nextIndex_last : nextIndex 43 = none := by decide

theorem nextIndex_of_lt {n : Fin 44} (h : n.val + 1 < 44) : nextIndex n = some ⟨n.val + 1, h⟩ := by
  simp [nextIndex, h]

/-- One pass of the loop before the last entry. -/
theorem runLoop_succ_of_lt {s : State} (h : s.STEP.val + 1 < 44) (fuel : Nat) :
    runLoop (fuel + 1) s =
      if (performEntry (currentEntry s) s).TRACE then
        (performEntry (currentEntry s) s).setSTEP ⟨s.STEP.val + 1, h⟩
      else runLoop fuel ((performEntry (currentEntry s) s).setSTEP ⟨s.STEP.val + 1, h⟩) := by
  simp [runLoop, nextIndex_of_lt h]

/-- The pass of the last entry, CLR. -/
theorem runLoop_succ_of_last {s : State} (h : s.STEP = 43) (fuel : Nat) : runLoop (fuel + 1) s = s.clear := by
  have hc : currentEntry s = .clr := (entryAt_clr_iff s.DIR s.STEP).2 h
  simp only [runLoop, hc, performEntry]
  rw [h, nextIndex_last]

/-- What no entry writes (R41): the bus registers, CTRL, R and ERR stay. -/
theorem performEntry_frame (e : Entry) (s : State) :
    (performEntry e s).ARGA = s.ARGA ∧ (performEntry e s).ARGB = s.ARGB ∧ (performEntry e s).TRACE = s.TRACE ∧
    (performEntry e s).R = s.R ∧ (performEntry e s).ERR = s.ERR ∧ (performEntry e s).pending = s.pending ∧
    (performEntry e s).rdata = s.rdata := by
  cases e <;> simp [performEntry]

/-- The same of a whole run (R41). -/
theorem runLoop_frame (fuel : Nat) (s : State) :
    (runLoop fuel s).ARGA = s.ARGA ∧ (runLoop fuel s).ARGB = s.ARGB ∧ (runLoop fuel s).TRACE = s.TRACE ∧
    (runLoop fuel s).R = s.R ∧ (runLoop fuel s).ERR = s.ERR ∧ (runLoop fuel s).pending = s.pending ∧
    (runLoop fuel s).rdata = s.rdata := by
  induction fuel generalizing s with
  | zero => simp [runLoop]
  | succ k ih =>
    have hf := performEntry_frame (currentEntry s) s
    by_cases h : s.STEP.val + 1 < 44
    · rw [runLoop_succ_of_lt h]
      split
      · simpa using hf
      · simpa [hf] using ih ((performEntry (currentEntry s) s).setSTEP ⟨s.STEP.val + 1, h⟩)
    · rw [runLoop_succ_of_last (Fin.ext (by omega : s.STEP.val = 43))]
      simp

end Sys2Proof.Machine
end

