-- ==== Sys2Proof/Laws/Exec.lean ====
section
/-! SUPPORT. What every command can do, said once: it issues its checks and, when they pass, its effect. -/

namespace Sys2Proof.Machine

/-- The acceptance checks of a command in the order of R223. -/
def checksOf (i : Instr) (s : State) : List ErrCode :=
  match i with
  | .load => [checkIdle s, checkBlockLength s]
  | .kexp => [checkIdle s, checkKeyLength s]
  | .ark a => if a.toNat ≤ 10 then [checkIdle s] else [checkIdle s, .illegalCommand]
  | .enc | .dec => [checkIdle s, checkBlockLength s, checkKeyLength s]
  | .cont => [checkPaused s]
  | .clr => []
  | .subb | .shr | .mixc | .emit | .isubb | .ishr | .imixc | .gfmul _ _ | .sbox _ | .isbox _ => [checkIdle s]

/-- The effect of a command that is accepted, ERR left out. -/
def effectOf (i : Instr) (s : State) : State :=
  match i with
  | .load => s.setS s.DIN
  | .kexp => s.setW (expandKey s.KEY)
  | .ark a => if h : a.toNat ≤ 10 then s.setS (addRoundKey s.S (roundKeyWords s.W ⟨a.toNat, by omega⟩)) else s
  | .subb => s.setS (substituteBytes s.S)
  | .shr => s.setS (shiftRows s.S)
  | .mixc => s.setS (mixColumns s.S)
  | .emit => s.setDOUT s.S
  | .isubb => s.setS (inverseSubstituteBytes s.S)
  | .ishr => s.setS (inverseShiftRows s.S)
  | .imixc => s.setS (inverseMixColumns s.S)
  | .gfmul a b => s.setR (gfMultiply a b)
  | .sbox a => s.setR (Machine.sbox a)
  | .isbox a => s.setR (Machine.isbox a)
  | .enc => runSequence (s.beginSequence .encryption)
  | .dec => runSequence (s.beginSequence .decryption)
  | .cont => runSequence s
  | .clr => s.clear

/-- Every command is its checks and its effect. -/
theorem exec_eq_issue (i : Instr) (s : State) : exec i s = issue (checksOf i s) (effectOf i) s := by
  cases i with
  | ark a =>
    by_cases h : a.toNat ≤ 10
    · simp only [exec, execArk, roundKeyIndex, Config.lastRoundKey, checksOf, h, dif_pos, if_pos]
      simp [issue, accept, effectOf, h]
    · simp only [exec, execArk, roundKeyIndex, Config.lastRoundKey, checksOf, h]
      rcases checkIdle_cases s with ⟨_, h2⟩ | ⟨_, h2⟩ <;> simp [issue, h2]
  | _ => rfl

/-- Everything a command can do: perform its effect and set ERR to 0, or set ERR alone. -/
theorem exec_cases (i : Instr) (s : State) :
    (firstError (checksOf i s) = .noError ∧ exec i s = .next ((effectOf i s).setERR .noError)) ∨
    (firstError (checksOf i s) ≠ .noError ∧ exec i s = .next (s.setERR (firstError (checksOf i s)))) := by
  rw [exec_eq_issue]
  exact issue_cases _ _ _

end Sys2Proof.Machine
end

