-- ==== Sys2Proof/Laws/PerInstr.lean ====
section
/-! SUPPORT. The per-command family `EncodeFields`: the op byte of a command's canonical word is the one R92 gives it,
and the word's operand bytes are the command's operands, zero where it has none (spec/30_encoding.md R90, R92). -/

namespace Sys2Proof

@[simp] theorem opField_cmdWord (op a b : Byte) : opField (cmdWord op a b) = op := by
  apply BitVec.eq_of_getLsbD_eq
  intro i hi
  simp only [opField, cmdWord, BitVec.getLsbD_extractLsb', BitVec.getLsbD_append]
  simp [hi, show ¬ 16 + i < 8 by omega, show ¬ 16 + i - 8 < 8 by omega, show 16 + i - 8 - 8 = i by omega]

@[simp] theorem aField_cmdWord (op a b : Byte) : aField (cmdWord op a b) = a := by
  apply BitVec.eq_of_getLsbD_eq
  intro i hi
  simp only [aField, cmdWord, BitVec.getLsbD_extractLsb', BitVec.getLsbD_append]
  simp [hi, show ¬ 8 + i < 8 by omega]

@[simp] theorem bField_cmdWord (op a b : Byte) : bField (cmdWord op a b) = b := by
  apply BitVec.eq_of_getLsbD_eq
  intro i hi
  simp only [bField, cmdWord, BitVec.getLsbD_extractLsb', BitVec.getLsbD_append]
  simp [hi]

/-- A command word is the word of its three fields. -/
theorem cmdWord_fields (w : CmdWord) : cmdWord (opField w) (aField w) (bField w) = w := by
  apply BitVec.eq_of_getLsbD_eq
  intro i hi
  simp only [opField, aField, bField, cmdWord, BitVec.getLsbD_extractLsb', BitVec.getLsbD_append]
  split
  · rename_i h; simp [h]
  · split
    · rename_i h h'; simp [h', show 8 + (i - 8) = i by omega]
    · rename_i h h'; simp [show i - 8 - 8 < 8 by omega, show 16 + (i - 8 - 8) = i by omega]

namespace Laws.EncodeFields

/-- The fields of a command's canonical word: op, a, b (R90, R92, R98). -/
def fieldsOf : Instr → Byte × Byte × Byte
  | .load => (0x01, 0, 0)
  | .kexp => (0x02, 0, 0)
  | .ark a => (0x03, a, 0)
  | .subb => (0x04, 0, 0)
  | .shr => (0x05, 0, 0)
  | .mixc => (0x06, 0, 0)
  | .emit => (0x07, 0, 0)
  | .isubb => (0x0C, 0, 0)
  | .ishr => (0x0D, 0, 0)
  | .imixc => (0x0E, 0, 0)
  | .gfmul a b => (0x10, a, b)
  | .sbox a => (0x11, a, 0)
  | .isbox a => (0x19, a, 0)
  | .enc => (0x20, 0, 0)
  | .dec => (0x28, 0, 0)
  | .cont => (0x30, 0, 0)
  | .clr => (0x31, 0, 0)

/-- The statement of the family, about one command. -/
def Statement (i : Instr) : Prop := (opField (encode i), aField (encode i), bField (encode i)) = fieldsOf i

theorem load : Statement .load := by simp [Statement, encode, fieldsOf]

theorem kexp : Statement .kexp := by simp [Statement, encode, fieldsOf]

theorem ark (a : Byte) : Statement (.ark a) := by simp [Statement, encode, fieldsOf]

theorem subb : Statement .subb := by simp [Statement, encode, fieldsOf]

theorem shr : Statement .shr := by simp [Statement, encode, fieldsOf]

theorem mixc : Statement .mixc := by simp [Statement, encode, fieldsOf]

theorem emit : Statement .emit := by simp [Statement, encode, fieldsOf]

theorem isubb : Statement .isubb := by simp [Statement, encode, fieldsOf]

theorem ishr : Statement .ishr := by simp [Statement, encode, fieldsOf]

theorem imixc : Statement .imixc := by simp [Statement, encode, fieldsOf]

theorem gfmul (a b : Byte) : Statement (.gfmul a b) := by simp [Statement, encode, fieldsOf]

theorem sbox (a : Byte) : Statement (.sbox a) := by simp [Statement, encode, fieldsOf]

theorem isbox (a : Byte) : Statement (.isbox a) := by simp [Statement, encode, fieldsOf]

theorem enc : Statement .enc := by simp [Statement, encode, fieldsOf]

theorem dec : Statement .dec := by simp [Statement, encode, fieldsOf]

theorem cont : Statement .cont := by simp [Statement, encode, fieldsOf]

theorem clr : Statement .clr := by simp [Statement, encode, fieldsOf]

end Laws.EncodeFields

end Sys2Proof
end

