-- ==== Sys2Proof/Laws/Step.lean ====
section
/-! SUPPORT. What one step can do. -/

namespace Sys2Proof.Machine

/-- The step of a read (R15, R64). -/
theorem step_read {s : State} {a : Addr} {rest : List HostAction} (h : s.pending = .read a :: rest) :
    step s = .next ((s.takeAction rest).answerRead a) := by
  simp [step, h, performAction]

/-- The step of a write to CMD (R91). -/
theorem step_cmd {s : State} {v : Byte} {rest : List HostAction} (h : s.pending = .write 0x000 v :: rest) :
    step s = issueWord (cmdWord v s.ARGA s.ARGB) (s.takeAction rest) := by
  simp [step, h, performAction, issuedWord]

/-- The step of a write to any other address (R61). -/
theorem step_write {s : State} {a : Addr} {v : Byte} {rest : List HostAction} (ha : a ≠ 0x000)
    (h : s.pending = .write a v :: rest) : step s = .next (writeRegister a v (s.takeAction rest)) := by
  simp only [step, h, performAction]
  exact if_neg ha

/-- The step of reset (R250). -/
theorem step_reset {s : State} {rest : List HostAction} (h : s.pending = .reset :: rest) :
    step s = .next (s.takeAction rest).resetCore := by
  simp [step, h, performAction]

/-- Everything a step can do: nothing, answer a read, issue a command word, write another register, or reset. -/
theorem step_cases (s : State) :
    (s.pending = [] ∧ step s = .next s) ∨
    (∃ a rest, s.pending = .read a :: rest ∧ step s = .next ((s.takeAction rest).answerRead a)) ∨
    (∃ v rest, s.pending = .write addrCMD v :: rest ∧
      step s = issueWord (cmdWord v s.ARGA s.ARGB) (s.takeAction rest)) ∨
    (∃ a v rest, a ≠ addrCMD ∧ s.pending = .write a v :: rest ∧
      step s = .next (writeRegister a v (s.takeAction rest))) ∨
    (∃ rest, s.pending = .reset :: rest ∧ step s = .next (s.takeAction rest).resetCore) := by
  cases hp : s.pending with
  | nil => exact .inl ⟨rfl, by simp [step, hp]⟩
  | cons act rest =>
    cases act with
    | read a => exact .inr (.inl ⟨a, rest, rfl, step_read hp⟩)
    | write a v =>
      by_cases ha : a = addrCMD
      · subst ha
        exact .inr (.inr (.inl ⟨v, rest, rfl, step_cmd hp⟩))
      · exact .inr (.inr (.inr (.inl ⟨a, v, rest, ha, rfl, step_write ha hp⟩)))
    | reset => exact .inr (.inr (.inr (.inr ⟨rest, rfl, step_reset hp⟩)))

/-- Everything presenting a command word can do: run the command it decodes to, or raise IllegalCommand. -/
theorem issueWord_cases (w : CmdWord) (s : State) :
    (∃ i, decode w = .ok i ∧ issueWord w s = exec i s) ∨
    (∃ e, decode w = .error e ∧ issueWord w s = .next (raiseError .illegalCommand s)) := by
  unfold issueWord
  cases h : decode w with
  | ok i => exact .inl ⟨i, rfl, rfl⟩
  | error e => cases e <;> exact .inr ⟨_, rfl, rfl⟩

end Sys2Proof.Machine
end

