-- ==== Sys2Proof/Laws/Transforms.lean ====
section
/-! SUPPORT. The matrix view of a block, and what one byte of a mixed column is. -/

namespace Sys2Proof.Machine

/-- The byte at row r, column c of the block a matrix gives. -/
@[simp] theorem byteAt_ofMatrix (f : Fin 4 → Fin 4 → Byte) (r c : Fin 4) : byteAt (ofMatrix f) r c = f r c := by
  have hc : colOf ⟨r.val + 4 * c.val, by omega⟩ = c := Fin.ext (by simp only [colOf]; omega)
  have hr : rowOf ⟨r.val + 4 * c.val, by omega⟩ = r := Fin.ext (by simp only [rowOf]; omega)
  simp [byteAt, ofMatrix, hc, hr]

/-- A byte of a block by its row and column. -/
theorem getElem_eq_byteAt (s : Block) (i : Fin 16) : s[i] = byteAt s (rowOf i) (colOf i) := by
  simp only [byteAt, rowOf, colOf, Fin.getElem_fin]
  congr 1
  omega

/-- Two blocks with the same matrix are equal. -/
theorem block_ext {s t : Block} (h : ∀ r c, byteAt s r c = byteAt t r c) : s = t := by
  apply Vector.ext
  intro i hi
  have e := h (rowOf ⟨i, hi⟩) (colOf ⟨i, hi⟩)
  rwa [← getElem_eq_byteAt, ← getElem_eq_byteAt] at e

/-- M of R160: 2 on the diagonal, 3 right of it, 1 elsewhere. -/
theorem mixEntry_mixRow (r k : Fin 4) : mixEntry mixRow r k = if k = r then 2 else if k = r + 1 then 3 else 1 := by
  revert r k; decide

/-- IM of R162: 14 on the diagonal, then 11, 13, 9 to its right. -/
theorem mixEntry_inverseMixRow (r k : Fin 4) :
    mixEntry inverseMixRow r k = if k = r then 14 else if k = r + 1 then 11 else if k = r + 2 then 13 else 9 := by
  revert r k; decide

/-- One byte of a mixed block: its row of the matrix times its old column. -/
theorem byteAt_mixWith (row0 : Vector Byte 4) (s : Block) (r c : Fin 4) :
    byteAt (mixWith row0 s) r c =
      gfMultiply (mixEntry row0 r 0) (byteAt s 0 c) ^^^ gfMultiply (mixEntry row0 r 1) (byteAt s 1 c) ^^^
        gfMultiply (mixEntry row0 r 2) (byteAt s 2 c) ^^^ gfMultiply (mixEntry row0 r 3) (byteAt s 3 c) :=
  byteAt_ofMatrix _ _ _

end Sys2Proof.Machine
end

