-- ==== Sys2Proof/Tests/Slice0.lean ====
section
/-! SUPPORT. Tests: expected values are those of spec/95_test_vectors.md (cited V1, V2, …), of the worked examples of the
command rules, or words written out from spec/30_encoding.md R90 and R92. After them, one witness theorem for every
statement with hypotheses: a concrete state and operands that meet all of them together. -/

namespace Sys2Proof.Tests

open Sys2Proof.Machine Host

/-! ## Helpers -/

/-- The 16-byte value written as 32 hexadecimal digits, byte 0 first (R17). -/
def block (n : Nat) : Block := Vector.ofFn fun i : Fin 16 => BitVec.ofNat 8 (n >>> (8 * (15 - i.val)))

/-- The word written as 8 hexadecimal digits, byte 0 first (R17). -/
def word (n : Nat) : Word := Vector.ofFn fun i : Fin 4 => BitVec.ofNat 8 (n >>> (8 * (3 - i.val)))

/-- The key of V1. -/
def key1 : Block := block 0x000102030405060708090a0b0c0d0e0f

/-- The plaintext of V1. -/
def plain1 : Block := block 0x00112233445566778899aabbccddeeff

/-- The ciphertext of V1. -/
def cipher1 : Block := block 0x69c4e0d86a7b0430d8cdb78070b4c55a

/-- The key and the block of V1 pushed, nothing paused, other registers not at their reset values. -/
def loaded : State :=
  { State.reset with
    KEY := key1
    KLEN := 16
    DIN := plain1
    DLEN := 16
    DOUT := plain1
    R := 0xA5
    ARGA := 0x0B
    ARGB := 0x13
    ERR := .invalidLength }

/-- `loaded` with TRACE = 1. -/
def traced : State := { loaded with TRACE := true }

/-- A paused sequence on the data of V1 before the entry `n`, as R197 has it. -/
def paused (d : Direction) (n : Fin 44) : State :=
  { traced with
    PAUSED := true
    DIR := d
    STEP := n
    S := blockAfter d plain1 key1 n.val
    W := if 2 ≤ n.val then expandKey key1 else zeroSchedule
    DOUT := if n.val = 43 then cipherOf d plain1 key1 else plain1 }

/-- The State register alone, nothing paused. -/
def withS (n : Nat) : State := { State.reset with S := block n }

/-- What the host does next. -/
def host (acts : List HostAction) (s : State) : State := { s with pending := acts }

/-- The next state of an outcome. -/
def nextOf : Outcome State Fault Refusal → State
  | .next s => s
  | .fault _ => State.reset
  | .refused _ => State.reset

/-- The next state of the command word `w` presented to `s`. -/
def run (w : CmdWord) (s : State) : State := nextOf (issueWord w s)

/-! ## Well-formedness -/

theorem test_wf_ark_10 : (Instr.ark 10).wellFormed = true := by decide
theorem test_wf_ark_11_refused : (Instr.ark 11).wellFormed = false := by decide
theorem test_wf_ark_255_refused : (Instr.ark 255).wellFormed = false := by decide
theorem test_wf_gfmul_any : (Instr.gfmul 255 0).wellFormed = true := by decide

/-! ## Decoding: a word for every constructor, written out from R90 and R92 -/

theorem test_decode_load : decode 0x010000#24 = .ok .load := by decide
theorem test_decode_kexp : decode 0x020000#24 = .ok .kexp := by decide
theorem test_decode_ark_0 : decode 0x030000#24 = .ok (.ark 0) := by decide
theorem test_decode_ark_10_ignores_b : decode 0x030AFF#24 = .ok (.ark 10) := by decide
theorem test_decode_ark_11 : decode 0x030B00#24 = .error (.roundKeyIndex 11) := by decide
theorem test_decode_subb : decode 0x040000#24 = .ok .subb := by decide
theorem test_decode_shr : decode 0x050000#24 = .ok .shr := by decide
theorem test_decode_mixc : decode 0x060000#24 = .ok .mixc := by decide
theorem test_decode_emit : decode 0x070000#24 = .ok .emit := by decide
theorem test_decode_isubb : decode 0x0C0000#24 = .ok .isubb := by decide
theorem test_decode_ishr : decode 0x0D0000#24 = .ok .ishr := by decide
theorem test_decode_imixc : decode 0x0E0000#24 = .ok .imixc := by decide
theorem test_decode_gfmul : decode 0x105783#24 = .ok (.gfmul 0x57 0x83) := by decide
theorem test_decode_sbox : decode 0x115300#24 = .ok (.sbox 0x53) := by decide
theorem test_decode_isbox : decode 0x19ED00#24 = .ok (.isbox 0xED) := by decide
theorem test_decode_enc : decode 0x200000#24 = .ok .enc := by decide
theorem test_decode_dec : decode 0x280000#24 = .ok .dec := by decide
theorem test_decode_cont : decode 0x300000#24 = .ok .cont := by decide
theorem test_decode_clr : decode 0x310000#24 = .ok .clr := by decide
theorem test_decode_zero : decode 0x000000#24 = .error (.unassignedOp 0x00) := by decide
theorem test_decode_ones : decode 0xFFFFFF#24 = .error (.unassignedOp 0xFF) := by decide

/-- Bit by bit: op 0001_0000, a 0101_0111, b 1000_0011 (R98: `105783`). -/
theorem test_decode_bits_gfmul : decode 0b000100000101011110000011#24 = .ok (.gfmul 0x57 0x83) := by decide
/-- Bit by bit: op 0000_0011, a 0000_1010, b 0000_0000 (R98: `030A00`). -/
theorem test_decode_bits_ark : decode 0b000000110000101000000000#24 = .ok (.ark 10) := by decide
/-- Bit by bit: op 0010_1000 (R190: `280000`), with operand bytes that DEC ignores. -/
theorem test_decode_bits_dec : decode 0b001010001111111100000001#24 = .ok .dec := by decide
theorem test_decode_table_word : decodeTableWord 24 0x115300 = some (.sbox 0x53) := by decide
theorem test_encode_ark : encode (.ark 10) = 0x030A00#24 := by decide
theorem test_encode_gfmul : encode (.gfmul 0x57 0x83) = 0x105783#24 := by decide

/-! ## Commands -/

/-- V10. -/
theorem test_gfmul_57_83 : (run 0x105783#24 loaded).R = 0xC1 := by decide
theorem test_gfmul_reduces : (run 0x108002#24 loaded).R = 0x1B := by decide
/-- V15. -/
theorem test_sbox_10 : (run 0x111000#24 loaded).R = 0xCA := by decide
theorem test_sbox_7c : (run 0x117C00#24 loaded).R = 0x10 := by decide
theorem test_isbox_52 : (run 0x195200#24 loaded).R = 0x48 := by decide
theorem test_isbox_7c : (run 0x197C00#24 loaded).R = 0x01 := by decide
/-- R181. -/
theorem test_load : (run 0x010000#24 loaded).S = plain1 ∧ (run 0x010000#24 loaded).ERR = .noError := by decide
/-- V16, V20. -/
theorem test_kexp_words :
    (run 0x020000#24 loaded).W[4] = word 0xd6aa74fd ∧ (run 0x020000#24 loaded).W[40] = word 0x13111d7f ∧
      (run 0x020000#24 loaded).W[43] = word 0x4d2b30c5 ∧ (run 0x020000#24 loaded).KLEN = 16 := by decide
/-- V53: KEXP after CLR. -/
theorem test_kexp_refused : run 0x020000#24 State.reset = { State.reset with ERR := .invalidLength } := by
  decide
/-- V30. -/
theorem test_ark_1 :
    (run 0x030100#24 { withS 0x5f72641557f5bc92f7be3b291db9f91a with W := expandKey key1 }).S =
      block 0x89d810e8855ace682d1843d8cb128fe4 := by decide
/-- V54: ARK 11 is refused. -/
theorem test_ark_11 : run 0x030B00#24 loaded = { loaded with ERR := .illegalCommand } := by decide
/-- V31. -/
theorem test_subb : (run 0x040000#24 (withS 0x00102030405060708090a0b0c0d0e0f0)).S =
    block 0x63cab7040953d051cd60e0e7ba70e18c := by decide
theorem test_isubb : (run 0x0C0000#24 (withS 0x637c777bf26b6fc53001672bfed7ab76)).S =
    block 0x000102030405060708090a0b0c0d0e0f := by decide
/-- V32. -/
theorem test_shr : (run 0x050000#24 (withS 0x000102030405060708090a0b0c0d0e0f)).S =
    block 0x00050a0f04090e03080d02070c01060b := by decide
theorem test_ishr : (run 0x0D0000#24 (withS 0x000102030405060708090a0b0c0d0e0f)).S =
    block 0x000d0a0704010e0b0805020f0c090603 := by decide
/-- V33. -/
theorem test_mixc : (run 0x060000#24 (withS 0xdb135345f20a225c01010101c6c6c6c6)).S =
    block 0x8e4da1bc9fdc589d01010101c6c6c6c6 := by decide
/-- R160, R162: the last row of each matrix as printed, where a rotation the other way shows. -/
theorem test_mix_row_3 : (∀ k : Fin 4, mixEntry mixRow 3 k = (block 0x03010102)[12 + k.val]) ∧
    (∀ k : Fin 4, mixEntry inverseMixRow 3 k = (block 0x0b0d090e)[12 + k.val]) := by decide
theorem test_imixc : (run 0x0E0000#24 (withS 0x5f72641557f5bc92f7be3b291db9f91a)).S =
    block 0x6353e08c0960e104cd70b751bacad0e7 := by decide
/-- R183. -/
theorem test_emit : run 0x070000#24 { loaded with S := cipher1 } =
    { loaded with S := cipher1, DOUT := cipher1, ERR := .noError } := by decide
/-- V40, first line: ENC with TRACE = 1 runs entry 0 only. -/
theorem test_enc_traced : run 0x200000#24 traced =
    { traced with S := plain1, STEP := 1, PAUSED := true, ERR := .noError } := by decide
/-- V50 to V53: a wrong length. -/
theorem test_enc_refused : run 0x200000#24 { loaded with KLEN := 15 } =
    { loaded with KLEN := 15, ERR := .invalidLength } := by decide
/-- V40, line 6: CONT runs entry 5, MIXC. -/
theorem test_cont_mixc :
    run 0x300000#24 { paused .encryption 5 with S := block 0x6353e08c0960e104cd70b751bacad0e7 } =
      { paused .encryption 5 with
        S := block 0x5f72641557f5bc92f7be3b291db9f91a
        STEP := 6
        ERR := .noError } := by decide
/-- V40, last remark: a CONT with nothing paused. -/
theorem test_cont_idle : run 0x300000#24 loaded = { loaded with ERR := .illegalCommand } := by decide
/-- R192. -/
theorem test_clr_paused : run 0x310000#24 { paused .decryption 7 with DOUT := plain1 } =
    { State.reset with DOUT := plain1, R := 0xA5, ARGA := 0x0B, ARGB := 0x13, TRACE := true } := by decide

/-! ## Bus -/

/-- V20, spot reads. -/
theorem test_read_W : busRead { loaded with W := expandKey key1 } 0x110 = 0xD6 ∧
    busRead { loaded with W := expandKey key1 } 0x1AF = 0xC5 ∧
    busRead { loaded with W := expandKey key1 } 0x1B0 = 0x00 := by decide
/-- R33: paused in DEC with IllegalCommand. -/
theorem test_read_STATUS : busRead { paused .decryption 3 with ERR := .illegalCommand } 0x004 = 0x0B := by
  decide
theorem test_read_CTRL : busRead (nextOf (step (host [.write 0x003 0xFF] loaded))) 0x003 = 0x01 := by decide
theorem test_push_17th : (nextOf (step (host [.write 0x009 0xEE] loaded))).KEY = key1 ∧
    (nextOf (step (host [.write 0x009 0xEE] loaded))).KLEN = 17 := by decide
theorem test_push_saturates : (nextOf (step (host [.write 0x00A 0xEE] { loaded with DLEN := 31 }))).DLEN = 31 := by
  decide
theorem test_reset_action : nextOf (step (host [.reset] (paused .encryption 9))) = State.reset := by decide
theorem test_fetch_word : (nextOf (step (State.reset.withFetchWord 24 0x105713))).R = 0xFE := by decide

/-! ## Witnesses: the hypotheses of each statement, clause by clause, at boundary values -/

/-- Whether an outcome is a next state; if so it is `.next (nextOf o)`. -/
def isNext : Outcome State Fault Refusal → Bool
  | .next _ => true
  | .fault _ => false
  | .refused _ => false

/-- What `isNext` says in the witnesses: the hypothesis `o = .next t` holds, of `t = nextOf o`. -/
theorem eq_nextOf {o : Outcome State Fault Refusal} (h : isNext o = true) : o = .next (nextOf o) := by
  cases o with
  | next s => rfl
  | fault r => cases h
  | refused r => cases h

/-- The state after one step. -/
def after (acts : List HostAction) (s : State) : State := nextOf (step (host acts s))

theorem witness_ResetFromAnyState : (host [.reset, .read 4] (paused .decryption 43)).pending = .reset :: [.read 4] := rfl

/-- A paused sequence of either direction, before any entry 1 to 43, meets both invariants. -/
theorem paused_invariants (d : Direction) (n : Fin 44) (h : 1 ≤ n.val) (acts : List HostAction) :
    StatusInv (host acts (paused d n)) ∧ TraceInv (host acts (paused d n)) := by
  refine ⟨⟨fun hp => (by cases hp), fun _ => ⟨h, rfl, rfl⟩, ?_, ?_⟩, fun _ => ⟨h, rfl, fun h2 => if_pos h2, fun h3 => if_pos h3⟩⟩
  · intro i hi
    exact absurd hi (Nat.not_le.2 i.isLt)
  · intro i hi
    exact absurd hi (Nat.not_le.2 i.isLt)

theorem witness_StepKeepsStatusInvariant :
    (StatusInv (host [.write 0 0x30] (paused .encryption 1)) ∧
      isNext (step (host [.write 0 0x30] (paused .encryption 1))) = true) ∧
    StatusInv (paused .decryption 43) ∧ StatusInv { State.reset with KLEN := 31, KEY := key1 } :=
  ⟨⟨(paused_invariants _ _ (by decide) _).1, by decide⟩, (paused_invariants .decryption 43 (by decide) []).1,
    by decide, by decide, by decide, by decide⟩

theorem witness_StepKeepsTraceInvariant :
    (TraceInv (host [.write 0 0x30] (paused .encryption 42)) ∧
      isNext (step (host [.write 0 0x30] (paused .encryption 42))) = true) ∧
    TraceInv (paused .decryption 1) ∧ TraceInv (paused .decryption 43) ∧ TraceInv loaded :=
  ⟨⟨(paused_invariants _ _ (by decide) _).2, by decide⟩, (paused_invariants .decryption 1 (by decide) []).2,
    (paused_invariants .decryption 43 (by decide) []).2, fun h => by cases h⟩

theorem witness_DecodeOfEncode :
    (Instr.ark 0).wellFormed = true ∧ (Instr.ark 10).wellFormed = true ∧ (Instr.gfmul 255 255).wellFormed = true := by
  decide

theorem witness_DecodeSelectsTheCommand : decode 0x030AFF#24 = .ok (.ark 10) := by decide

theorem witness_IgnoredFieldsDoNotMatter :
    (decode (cmdWord 0x11 0xFF 0x00) = .ok (.sbox 0xFF) ∧ (usesA (.sbox 0xFF) = true → (0xFF : Byte) = 0xFF) ∧
      (usesB (.sbox 0xFF) = true → (0x77 : Byte) = 0x00)) ∧
    (decode (cmdWord 0x31 0 0) = .ok .clr ∧ (usesA .clr = true → (0x01 : Byte) = 0) ∧
      (usesB .clr = true → (0x02 : Byte) = 0)) := by decide

theorem witness_DirectionBitPairs :
    (0x0B : Byte) ∈ ([0x0B, 0x09, 0x0A, 0x0F, 0x18, 0x38, 0x39] : List Byte) ∧
    (0x39 : Byte) ∈ ([0x0B, 0x09, 0x0A, 0x0F, 0x18, 0x38, 0x39] : List Byte) := by decide

theorem witness_StepRunsDecodedCommand :
    (host [.write 0 0x10, .reset] loaded).pending = .write 0x000 0x10 :: [.reset] ∧
      decode (cmdWord 0x10 loaded.ARGA loaded.ARGB) = .ok (.gfmul 0x0B 0x13) := by decide

theorem witness_PlacedWordIsRunNext : decode (BitVec.ofNat 24 0x030A00) = .ok (.ark 10) := by decide

theorem witness_IllegalWordRaisesIllegalCommand :
    ((host [.write 0 0x00] loaded).pending = .write 0x000 0x00 :: [] ∧ (0x00 : Byte) ∉ assignedOps) ∧
    ((host [.write 0 0xFF] loaded).pending = .write 0x000 0xFF :: [] ∧ (0xFF : Byte) ∉ assignedOps) ∧
    ((host [.write 0 0x03] loaded).pending = .write 0x000 0x03 :: [] ∧ 10 < loaded.ARGA.toNat) ∧
    10 < ({ loaded with ARGA := 0xFF } : State).ARGA.toNat := by decide

theorem witness_IdleKeepsState : (paused .encryption 1).pending = [] ∧ loaded.pending = [] := ⟨rfl, rfl⟩

theorem witness_AddressMapReads :
    (0x00B ≤ (0x00B : Addr).toNat ∧ (0x00F : Addr).toNat ≤ 0x00F) ∧
    (0x050 ≤ (0x050 : Addr).toNat ∧ (0x0FF : Addr).toNat ≤ 0x0FF) ∧ 0x1B0 ≤ (0x1B0 : Addr).toNat ∧
    0x1B0 ≤ (0x1FF : Addr).toNat := by decide

theorem witness_ReadsHaveNoSideEffects :
    (host [.read 0x1AF] loaded).pending = .read 0x1AF :: [] ∧
    coreOf (host [.reset] loaded) = coreOf loaded ∧
    ((0x003 : Addr) ≠ 0x000 ∧ (0x003 : Addr) ≠ 0x009 ∧ (0x003 : Addr) ≠ 0x00A ∧
      (host [.write 0x003 1] (paused .encryption 2)).pending = .write 0x003 1 :: []) ∧
    (({ loaded with KLEN := 29, DLEN := 29 } : State).PAUSED = false ∧
      ({ loaded with KLEN := 29, DLEN := 29 } : State).KLEN.toNat < 30 ∧
      ({ loaded with KLEN := 29, DLEN := 29 } : State).DLEN.toNat < 30 ∧
      (host [.write 0x009 7, .write 0x009 7] { loaded with KLEN := 29 }).pending =
        .write 0x009 7 :: .write 0x009 7 :: [] ∧
      (host [.write 0x00A 7, .write 0x00A 7] { loaded with DLEN := 29 }).pending =
        .write 0x00A 7 :: .write 0x00A 7 :: []) ∧
    (loaded.PAUSED = false ∧ loaded.KLEN = 16 ∧ loaded.DLEN = 16 ∧
      (host [.write 0 0x20, .write 0 0x20] loaded).pending = .write 0x000 0x20 :: .write 0x000 0x20 :: []) := by
  decide

theorem witness_ReservedAndReadOnlyAccesses :
    (0x00A ≤ (0x00A : Addr).toNat ∧ (0x00F : Addr).toNat ≤ 0x00F) ∧
    (0x050 ≤ (0x050 : Addr).toNat ∧ (0x0FF : Addr).toNat ≤ 0x0FF) ∧ 0x1B0 ≤ (0x1FF : Addr).toNat ∧
    (0x004 ≤ (0x004 : Addr).toNat ∧ (0x008 : Addr).toNat ≤ 0x008) ∧ 0x00B ≤ (0x00B : Addr).toNat ∧
    (host [.read 0x009] loaded).pending = .read 0x009 :: [] ∧
    (host [.write 0x1FF 9] loaded).pending = .write 0x1FF 9 :: [] ∧ (0x1FF : Addr) ≠ 0x000 ∧
    isNext (step (host [.write 0x1FF 9] loaded)) = true ∧
    isNext (step (host [.read 0x009] loaded)) = true := by decide

theorem witness_KeyPush :
    ((host [.write 0x009 1] (paused .encryption 1)).pending = .write 0x009 1 :: [] ∧
      (host [.write 0x009 1] (paused .encryption 1)).PAUSED = true) ∧
    ((host [.write 0x009 1] loaded).pending = .write 0x009 1 :: [] ∧ loaded.PAUSED = false) ∧
    (State.reset.PAUSED = false ∧ State.reset.KLEN = 0 ∧ State.reset.KEY = zeroBlock ∧
      (host (pushes 0x009 (List.replicate 17 0xAB)) State.reset).pending =
        pushes 0x009 (List.replicate 17 0xAB) ++ []) ∧
    (isNext (step (host [.write 0 0x31] loaded)) = true ∧ loaded.KLEN ≠ 0 ∧
      (after [.write 0 0x31] loaded).KLEN = 0) := by decide

theorem witness_DinPush :
    ((host [.write 0x00A 1] (paused .encryption 1)).pending = .write 0x00A 1 :: [] ∧
      (host [.write 0x00A 1] (paused .encryption 1)).PAUSED = true) ∧
    ((host [.write 0x00A 1] loaded).pending = .write 0x00A 1 :: [] ∧ loaded.PAUSED = false) ∧
    (State.reset.PAUSED = false ∧ State.reset.DLEN = 0 ∧ State.reset.DIN = zeroBlock ∧
      (host (pushes 0x00A (List.replicate 17 0xAB)) State.reset).pending =
        pushes 0x00A (List.replicate 17 0xAB) ++ []) ∧
    (isNext (step (host [.write 0 0x31] loaded)) = true ∧ loaded.DLEN ≠ 0 ∧
      (after [.write 0 0x31] loaded).DLEN = 0) := by decide

theorem witness_OperandRegistersKeepTheirValue :
    (host [.write 0x001 9] (paused .encryption 1)).pending = .write 0x001 9 :: [] ∧
    (host [.write 0x002 9] loaded).pending = .write 0x002 9 :: [] ∧
    (host [.write 0x000 0x11] loaded).pending = .write 0x000 0x11 :: [] ∧
    isNext (exec .clr loaded) = true ∧
    (isNext (step (host [.write 0x001 9] loaded)) = true ∧
      (after [.write 0x001 9] loaded).ARGA ≠ (host [.write 0x001 9] loaded).ARGA) ∧
    (isNext (step (host [.reset] loaded)) = true ∧
      (after [.reset] loaded).ARGB ≠ (host [.reset] loaded).ARGB) := by decide

theorem witness_ControlRegister :
    (host [.write 0x003 0xFE] (paused .encryption 1)).pending = .write 0x003 0xFE :: [] ∧
    isNext (exec .clr traced) = true := by decide

/-- One state for each of the six failing checks of R223, in its order, and one for acceptance. -/
theorem witness_FirstFailedCheckDecides :
    (host [.write 0 0x08] (paused .encryption 1)).pending = .write 0x000 0x08 :: [] ∧
    refusalCode 0x08 0 loaded = .illegalCommand ∧ refusalCode 0x20 0 (paused .encryption 1) = .illegalCommand ∧
    refusalCode 0x30 0 loaded = .illegalCommand ∧ refusalCode 0x03 11 loaded = .illegalCommand ∧
    refusalCode 0x01 0 { loaded with DLEN := 17 } = .invalidLength ∧
    refusalCode 0x02 0 { loaded with KLEN := 15 } = .invalidLength ∧ refusalCode 0x03 10 loaded = .noError := by
  decide

theorem witness_ErrIsOutcomeOfLatestCmdWrite :
    ((host [.write 0 0x30] loaded).pending = .write 0x000 0x30 :: [] ∧
      isNext (step (host [.write 0 0x30] loaded)) = true) ∧
    (isNext (step (host [.reset] loaded)) = true ∧
      (after [.reset] loaded).ERR ≠ (host [.reset] loaded).ERR) := by decide

theorem witness_ResultRegisterWriters :
    loaded.PAUSED = false ∧ isNext (step (host [.write 0 0x10] loaded)) = true ∧
      (after [.write 0 0x10] loaded).R ≠ (host [.write 0 0x10] loaded).R := by decide

/-- A command that does change each register the statement speaks of. -/
theorem witness_CommandsWriteOnlyTheirRegisters :
    isNext (exec .enc loaded) = true ∧ (nextOf (exec .load loaded)).S ≠ loaded.S ∧
    (nextOf (exec .emit loaded)).DOUT ≠ loaded.DOUT ∧ (nextOf (exec (.sbox 0) loaded)).R ≠ loaded.R ∧
    (nextOf (exec .clr loaded)).KEY ≠ loaded.KEY ∧ (nextOf (exec .clr (paused .encryption 2))).PAUSED = false ∧
    (paused .encryption 2).PAUSED = true := by decide

theorem witness_ControlIndependentOfData :
    controlOf (paused .encryption 7) = controlOf { paused .encryption 7 with S := cipher1, KEY := plain1, R := 0 } := by decide

theorem witness_StepCounterMovesByOneOrClears :
    StatusInv (host [.write 0 0x30] (paused .encryption 42)) ∧
      isNext (step (host [.write 0 0x30] (paused .encryption 42))) = true :=
  ⟨(paused_invariants _ _ (by decide) _).1, by decide⟩

/-- The acceptance conditions of the commands, for LoadCopiesInputBlock, KexpExpandsKey, ShiftRowsCommands,
GfmulMultipliesBytes, TableLookupCommands, EncEncryptsBlock and DecDecryptsBlock: idle with both lengths right, idle with
a wrong one, paused. -/
theorem witness_commands :
    (loaded.PAUSED = false ∧ loaded.DLEN = 16 ∧ loaded.KLEN = 16 ∧ loaded.TRACE = false) ∧
    (traced.PAUSED = false ∧ traced.DLEN = 16 ∧ traced.KLEN = 16 ∧ traced.TRACE = true) ∧
    (State.reset.PAUSED = false ∧ State.reset.DLEN ≠ 16 ∧ State.reset.KLEN ≠ 16) ∧
    (paused .decryption 2).PAUSED = true := by decide

theorem witness_ArkAddsRoundKey :
    loaded.PAUSED = false ∧ isNext (exec (.ark (BitVec.ofNat 8 10)) loaded) = true ∧
    isNext (exec (.ark (BitVec.ofNat 8 0)) loaded) = true ∧ 10 < (11 : Byte).toNat ∧
    10 < (255 : Byte).toNat ∧ (paused .encryption 2).PAUSED = true := by decide

theorem witness_SubBytesCommands : loaded.PAUSED = false ∧ isNext (exec .subb loaded) = true ∧
    isNext (exec .isubb loaded) = true ∧ (paused .encryption 2).PAUSED = true := by decide

theorem witness_MixcMultipliesColumns :
    (loaded.PAUSED = false ∧ isNext (exec .mixc loaded) = true ∧
      ∀ r : Fin 4, byteAt loaded.S r 3 = 0) ∧
    ((withS 0x0102).PAUSED = false ∧
      (∀ i : Fin 16, (withS 0x0103).S[i] = (withS 0x0102).S[i] ^^^ (withS 0x0001).S[i]) ∧
      isNext (exec .mixc (withS 0x0102)) = true ∧
      isNext (exec .mixc (withS 0x0001)) = true ∧
      isNext (exec .mixc (withS 0x0103)) = true) ∧
    (paused .encryption 5).PAUSED = true := by decide

theorem witness_ImixcMultipliesColumns :
    loaded.PAUSED = false ∧ isNext (exec .imixc loaded) = true ∧
    isNext (exec .mixc loaded) = true ∧ (∀ r : Fin 4, byteAt loaded.S r 0 = 0) ∧
    (paused .decryption 6).PAUSED = true := by decide

theorem witness_EmitCopiesState : loaded.PAUSED = false ∧ (paused .encryption 42).PAUSED = true ∧
    isNext (exec .emit loaded) = true ∧ (nextOf (exec .emit loaded)).DOUT ≠ loaded.DOUT ∧
    (isNext (step (host [.write 0 0x07] loaded)) = true ∧
      (after [.write 0 0x07] loaded).DOUT ≠ (host [.write 0 0x07] loaded).DOUT) ∧
    (isNext (step (host [.reset] loaded)) = true ∧
      (after [.reset] loaded).DOUT ≠ (host [.reset] loaded).DOUT) := by decide

theorem witness_ClrDiscards :
    isNext (exec .clr loaded) = true ∧
    (let s := host [.write 0 0x31] { loaded with KLEN := 17, DLEN := 15 }
     isNext (step s) = true ∧ s.PAUSED = false ∧ s.KLEN ≠ 0 ∧ s.KLEN ≠ 16 ∧ (nextOf (step s)).KLEN = 0 ∧
      s.DLEN ≠ 0 ∧ s.DLEN ≠ 16 ∧ (nextOf (step s)).DLEN = 0) := by decide

theorem witness_TransformLanes :
    (plain1[(15 : Fin 16)] = (block 0xff)[(15 : Fin 16)]) ∧
    (∀ c : Fin 4, byteAt (block 0x00010000000100000001000000010000) 1 c =
      byteAt (block 0xff01ff00ff01ff00ff01ff00ff01ff00) 1 c) ∧
    (∀ r : Fin 4, byteAt (block 0x01020304) r 3 = byteAt (block 0xaabbccdd000000000000000001020304) r 3) := by
  decide

/-- The index bounds of KeyExpansionRecurrence and DecryptionEntriesUndo, and a nonzero byte for GfMultiplyFieldLaws. -/
theorem witness_indices : (4 ≤ 4 ∧ 4 < 44) ∧ (4 ≤ 43 ∧ 43 < 44) ∧ (2 ≤ 2 ∧ 2 < 42) ∧ (2 ≤ 41 ∧ 41 < 42) ∧
    (0x01 : Byte) ≠ 0 ∧ (0xFF : Byte) ≠ 0 := by decide

theorem witness_RunEndsWithin44Entries : 44 ≤ 44 ∧ ({ paused .encryption 1 with TRACE := false } : State).TRACE = false := by
  decide

theorem witness_ContRunsOneEntryWhenTraced :
    (StatusInv (paused .encryption 1) ∧ (paused .encryption 1).PAUSED = true ∧ (paused .encryption 1).TRACE = true ∧
      (paused .encryption 1).STEP.val + 1 < 44) ∧
    (StatusInv (paused .decryption 42) ∧ (paused .decryption 42).STEP.val + 1 < 44) ∧
    ((paused .decryption 43).PAUSED = true ∧ (paused .decryption 43).STEP = 43) ∧ loaded.PAUSED = false :=
  ⟨⟨(paused_invariants .encryption 1 (by decide) []).1, by decide⟩,
    ⟨(paused_invariants .decryption 42 (by decide) []).1, by decide⟩, by decide⟩

theorem witness_ContFinishesWhenUntraced :
    (TraceInv { paused .encryption 1 with TRACE := false } ∧ (paused .encryption 1).PAUSED = true) ∧
    TraceInv { paused .decryption 43 with TRACE := false } :=
  ⟨⟨fun h => (paused_invariants .encryption 1 (by decide) []).2 h, rfl⟩,
    fun h => (paused_invariants .decryption 43 (by decide) []).2 h⟩

/-- The decryption of what ENC gave, under the same key. -/
theorem witness_OperationEndsWithCipherResult_roundTrip :
    isNext (exec .enc loaded) = true ∧
      ∀ t, exec .enc loaded = .next t → ∃ u : State, u.DIN = t.DOUT ∧ u.KEY = loaded.KEY ∧ u.PAUSED = false ∧
        u.KLEN = 16 ∧ u.DLEN = 16 ∧ u.TRACE = false :=
  ⟨by decide, fun t _ => ⟨{ loaded with DIN := t.DOUT }, rfl, rfl, rfl, rfl, rfl, rfl⟩⟩

/-- ENC with TRACE = 0; and ENC with TRACE = 1 followed by 43 CONT. -/
theorem witness_OperationEndsWithCipherResult_start :
    (host [.write 0 0x28, .read 0x030] loaded).pending = .write 0x000 (startOp .decryption) :: [.read 0x030] ∧
    (host (.write 0 0x20 :: List.replicate 43 (.write 0 0x30)) traced).pending =
      .write 0x000 (startOp .encryption) :: (List.replicate 43 (.write 0x000 0x30) ++ []) := by decide

/-- The first state with nothing paused: after the host has cleared TRACE and issued one CONT, with a dropped push and a
refused command in between. -/
theorem witness_OperationEndsWithCipherResult :
    let acts : List HostAction := [.write 0x009 1, .write 0 0x20, .write 0x003 0, .write 0 0x30]
    let s := host (.write 0x000 (startOp .decryption) :: acts) traced
    s.PAUSED = false ∧ s.KLEN = 16 ∧ s.DLEN = 16 ∧ (∀ act ∈ acts, keepsOperation act = true) ∧
      isNext (core.run (4 + 1) s) = true ∧ (nextOf (core.run (4 + 1) s)).PAUSED = false ∧
      ∀ m : Fin 4, (nextOf (core.run (m.val + 1) s)).PAUSED = true := by decide

/-! ## The whole cipher, last because it takes the kernel longest -/

/-- V1: one ENC, from the state after the pushes; all else as R189 says. -/
theorem test_enc_v1 : run 0x200000#24 loaded =
    { State.reset with DOUT := cipher1, R := 0xA5, ARGA := 0x0B, ARGB := 0x13 } := by decide +kernel
/-- V2. -/
theorem test_dec_v2 : (run 0x280000#24 { loaded with DIN := cipher1 }).DOUT = plain1 := by decide +kernel

end Sys2Proof.Tests
end

section
/-! PROOFS of the state family: ARGA, ARGB, ERR and R, the registers of spec/10_state.md that the bus and the commands
share. What a write, a command and a step leave unchanged is said once; each statement is read off from it. -/

namespace Sys2Proof.Machine

/-! ## What one action leaves unchanged -/

/-- A write to an address other than CMD, register by register (R61). -/
theorem writeRegister_eq (a : Addr) (v : Byte) (s : State) :
    writeRegister a v s =
      { s with
        ARGA := if a = 0x001 then v else s.ARGA
        ARGB := if a = 0x002 then v else s.ARGB
        TRACE := if a = 0x003 then v.getLsbD 0 else s.TRACE
        KEY := if a = 0x009 then (s.pushKey v).KEY else s.KEY
        KLEN := if a = 0x009 then (s.pushKey v).KLEN else s.KLEN
        DIN := if a = 0x00A then (s.pushDin v).DIN else s.DIN
        DLEN := if a = 0x00A then (s.pushDin v).DLEN else s.DLEN } := by
  obtain ⟨rfl, h⟩ | ⟨rfl, h⟩ | ⟨rfl, h⟩ | ⟨rfl, h⟩ | ⟨rfl, h⟩ | ⟨h1, h2, h3, h9, hA, h⟩ := writeRegister_cases a v s
  · exact h
  · exact h
  · exact h
  · obtain ⟨-, hp⟩ | ⟨-, hp⟩ := pushKey_cases v s <;> rw [h, hp] <;> rfl
  · obtain ⟨-, hp⟩ | ⟨-, hp⟩ := pushDin_cases v s <;> rw [h, hp] <;> rfl
  · rw [h, if_neg h1, if_neg h2, if_neg h3, if_neg h9, if_neg h9, if_neg hA, if_neg hA]

/-- ARGA is written at 0x001 only (R61). -/
theorem writeRegister_ARGA {a : Addr} (ha : a ≠ 0x001) (v : Byte) (s : State) :
    (writeRegister a v s).ARGA = s.ARGA := by
  rw [writeRegister_eq]
  exact if_neg ha

/-- ARGB is written at 0x002 only (R61). -/
theorem writeRegister_ARGB {a : Addr} (ha : a ≠ 0x002) (v : Byte) (s : State) :
    (writeRegister a v s).ARGB = s.ARGB := by
  rw [writeRegister_eq]
  exact if_neg ha

@[simp] theorem writeRegister_R (a : Addr) (v : Byte) (s : State) : (writeRegister a v s).R = s.R := by
  rw [writeRegister_eq]

@[simp] theorem writeRegister_ERR (a : Addr) (v : Byte) (s : State) : (writeRegister a v s).ERR = s.ERR := by
  rw [writeRegister_eq]

/-- What no command's effect touches (R41): the operands, CTRL, ERR and the host's side of the bus. -/
theorem effectOf_frame (i : Instr) (s : State) :
    (effectOf i s).ARGA = s.ARGA ∧ (effectOf i s).ARGB = s.ARGB ∧ (effectOf i s).TRACE = s.TRACE ∧
    (effectOf i s).ERR = s.ERR ∧ (effectOf i s).pending = s.pending ∧ (effectOf i s).rdata = s.rdata := by
  cases i with
  | enc | dec | cont => simp [effectOf, runSequence, runLoop_frame]
  | ark a => by_cases h : a.toNat ≤ 10 <;> simp [effectOf, h]
  | _ => simp [effectOf]

/-- R after a command's effect (R26). -/
theorem effectOf_R (i : Instr) (s : State) :
    (effectOf i s).R = s.R ∨ (∃ a b, i = .gfmul a b ∧ (effectOf i s).R = gfMultiply a b) ∨
    (∃ a, i = .sbox a ∧ (effectOf i s).R = sbox a) ∨ (∃ a, i = .isbox a ∧ (effectOf i s).R = isbox a) := by
  cases i with
  | gfmul a b => exact .inr (.inl ⟨a, b, rfl, rfl⟩)
  | sbox a => exact .inr (.inr (.inl ⟨a, rfl, rfl⟩))
  | isbox a => exact .inr (.inr (.inr ⟨a, rfl, rfl⟩))
  | enc | dec | cont => simp [effectOf, runSequence, runLoop_frame]
  | ark a => by_cases h : a.toNat ≤ 10 <;> simp [effectOf, h]
  | _ => simp [effectOf]

/-- An idle core accepts a command whose only check is that it is idle. -/
theorem exec_accepts_of_idle {i : Instr} {s : State} (hc : checksOf i s = [checkIdle s]) (h : s.PAUSED = false) :
    exec i s = .next ((effectOf i s).setERR .noError) := by
  rw [exec_eq_issue, hc]
  exact issue_accepts (by simp [checkIdle_of_idle h]) _ _

/-- The operands, CTRL and the host's side of the bus pass through every command, accepted or refused (R41). -/
theorem exec_frame {i : Instr} {s t : State} (h : exec i s = .next t) :
    t.ARGA = s.ARGA ∧ t.ARGB = s.ARGB ∧ t.TRACE = s.TRACE ∧ t.pending = s.pending ∧ t.rdata = s.rdata := by
  obtain ⟨-, he⟩ | ⟨-, he⟩ := exec_cases i s
  · obtain rfl := Host.Outcome.next.inj (he.symm.trans h)
    simp [effectOf_frame]
  · obtain rfl := Host.Outcome.next.inj (he.symm.trans h)
    simp

/-- A command that changes R is GFMUL, SBOX or ISBOX and leaves its result there (R26). -/
theorem exec_R_changed {i : Instr} {s t : State} (h : exec i s = .next t) (hR : t.R ≠ s.R) :
    (∃ a b, i = .gfmul a b ∧ t.R = gfMultiply a b) ∨ (∃ a, i = .sbox a ∧ t.R = sbox a) ∨
    (∃ a, i = .isbox a ∧ t.R = isbox a) := by
  obtain ⟨-, he⟩ | ⟨-, he⟩ := exec_cases i s
  · obtain rfl := Host.Outcome.next.inj (he.symm.trans h)
    exact (effectOf_R i s).resolve_left hR
  · obtain rfl := Host.Outcome.next.inj (he.symm.trans h)
    exact absurd rfl hR

/-- The operands pass through every command word, legal or not. -/
theorem issueWord_operands {w : CmdWord} {s t : State} (h : issueWord w s = .next t) :
    t.ARGA = s.ARGA ∧ t.ARGB = s.ARGB := by
  obtain ⟨i, -, hi⟩ | ⟨e, -, he⟩ := issueWord_cases w s
  · obtain ⟨ha, hb, -⟩ := exec_frame (hi.symm.trans h)
    exact ⟨ha, hb⟩
  · obtain rfl := Host.Outcome.next.inj (he.symm.trans h)
    exact ⟨rfl, rfl⟩

/-- A command word that changes R decodes to GFMUL, SBOX or ISBOX and leaves its result there. -/
theorem issueWord_R_changed {w : CmdWord} {s t : State} (h : issueWord w s = .next t) (hR : t.R ≠ s.R) :
    ∃ i, decode w = .ok i ∧
      ((∃ a b, i = .gfmul a b ∧ t.R = gfMultiply a b) ∨ (∃ a, i = .sbox a ∧ t.R = sbox a) ∨
        (∃ a, i = .isbox a ∧ t.R = isbox a)) := by
  obtain ⟨i, hd, hi⟩ | ⟨e, -, he⟩ := issueWord_cases w s
  · exact ⟨i, hd, exec_R_changed (hi.symm.trans h) hR⟩
  · obtain rfl := Host.Outcome.next.inj (he.symm.trans h)
    exact absurd rfl hR

/-- A step that changes a register of R20, `f`, is a reset, a CMD write, or a write to another address. -/
theorem step_changes_register {α : Type} (f : State → α) (hf : ∀ s, f (coreOf s) = f s) {s t : State}
    (h : step s = .next t) (hne : f t ≠ f s) :
    ∃ rest, s.pending = .reset :: rest ∨
      (∃ v, s.pending = .write addrCMD v :: rest ∧
        issueWord (cmdWord v s.ARGA s.ARGB) (s.takeAction rest) = .next t) ∨
      (∃ a v, a ≠ addrCMD ∧ s.pending = .write a v :: rest ∧ t = writeRegister a v (s.takeAction rest)) := by
  have hcore : coreOf t ≠ coreOf s := fun e => hne (by rw [← hf t, e, hf])
  obtain ⟨-, hs⟩ | ⟨a, rest, -, hs⟩ | ⟨v, rest, hp, hs⟩ | ⟨a, v, rest, ha, hp, hs⟩ | ⟨rest, hp, -⟩ := step_cases s
  case inl | inr.inl =>
    obtain rfl := Host.Outcome.next.inj (hs.symm.trans h)
    exact absurd rfl hcore
  · exact ⟨rest, .inr (.inl ⟨v, hp, hs.symm.trans h⟩)⟩
  · exact ⟨rest, .inr (.inr ⟨a, v, ha, hp, Host.Outcome.next.inj (h.symm.trans hs)⟩)⟩
  · exact ⟨rest, .inl hp⟩

/-! ## The code of a refusal -/

/-- Check 2 of R223 at the head of the list. -/
theorem firstError_checkIdle (s : State) (rest : List ErrCode) :
    firstError (checkIdle s :: rest) = if s.PAUSED = true then .illegalCommand else firstError rest := by
  unfold checkIdle; split <;> simp

/-- Check 3 of R223 at the head of the list. -/
theorem firstError_checkPaused (s : State) (rest : List ErrCode) :
    firstError (checkPaused s :: rest) = if s.PAUSED = false then .illegalCommand else firstError rest := by
  unfold checkPaused; cases s.PAUSED <;> simp

/-- Check 5 of R223 at the head of the list. -/
theorem firstError_checkBlockLength (s : State) (rest : List ErrCode) :
    firstError (checkBlockLength s :: rest) = if s.DLEN ≠ 16 then .invalidLength else firstError rest := by
  by_cases h : s.DLEN = 16
  · simp [checkBlockLength_of_right h, h]
  · rw [checkBlockLength_of_wrong h, if_pos h, firstError_invalidLength]

/-- Check 6 of R223 at the head of the list. -/
theorem firstError_checkKeyLength (s : State) (rest : List ErrCode) :
    firstError (checkKeyLength s :: rest) = if s.KLEN ≠ 16 then .invalidLength else firstError rest := by
  by_cases h : s.KLEN = 16
  · simp [checkKeyLength_of_right h, h]
  · rw [checkKeyLength_of_wrong h, if_pos h, firstError_invalidLength]

/-- The check list of R223 looks at the core alone, not at the host's coming actions. -/
@[simp] theorem refusalCode_takeAction (op a : Byte) (s : State) (rest : List HostAction) :
    refusalCode op a (s.takeAction rest) = refusalCode op a s := rfl

/-- A command the decoder selects has the word's op, and ARK has the word's field a as its legal index (R94). -/
theorem decode_ok_fields {w : CmdWord} {i : Instr} (h : decode w = .ok i) :
    opField w = opField (encode i) ∧ (∀ a, i = .ark a → a = aField w ∧ a.toNat ≤ 10) := by
  unfold decode at h
  dsimp only at h
  split at h
  case h_3 hop =>
    split at h
    · next ha =>
      cases h
      exact ⟨by simp [hop, encode], fun a e => by cases e; exact ⟨rfl, ha⟩⟩
    · cases h
  case h_18 => cases h
  all_goals
    rename_i hop
    cases h
    simp [hop, encode]

/-- The decoder refuses a word for its op, or ARK for an index above 10 (R95). -/
theorem decode_error_cause {w : CmdWord} {e : DecodeError} (h : decode w = .error e) :
    opField w ∉ assignedOps ∨ (opField w = 0x03 ∧ 10 < (aField w).toNat) := by
  unfold decode at h
  dsimp only at h
  split at h
  case h_3 hop =>
    split at h
    · cases h
    · next ha => exact .inr ⟨hop, by simpa [Config.lastRoundKey] using ha⟩
  case h_18 =>
    left
    simp_all [assignedOps]
  all_goals cases h

/-- A word the decoder refuses fails check 1 or 4 of R223. -/
theorem refusalCode_of_decode_error {w : CmdWord} {e : DecodeError} (h : decode w = .error e) (s : State) :
    refusalCode (opField w) (aField w) s = .illegalCommand := by
  obtain hop | ⟨hop, ha⟩ := decode_error_cause h
  · simp [refusalCode, hop]
  · simp [refusalCode, hop, ha]

/-- The checks of the command a word decodes to give the code of R223. -/
theorem refusalCode_of_decode_ok {w : CmdWord} {i : Instr} (h : decode w = .ok i) (s : State) :
    refusalCode (opField w) (aField w) s = firstError (checksOf i s) := by
  obtain ⟨hop, hark⟩ := decode_ok_fields h
  rw [hop]
  cases i with
  | ark a =>
    obtain ⟨ha, hle⟩ := hark a rfl
    simp [refusalCode, checksOf, encode, assignedOps, firstError_checkIdle, ← ha, hle, Nat.not_lt.2 hle]
  | cont => simp [refusalCode, checksOf, encode, assignedOps, firstError_checkPaused]
  | load | kexp | enc | dec =>
    simp [refusalCode, checksOf, encode, assignedOps, firstError_checkIdle, firstError_checkBlockLength,
      firstError_checkKeyLength]
  | _ => simp [refusalCode, checksOf, encode, assignedOps, firstError_checkIdle]

/-- Every command word sets ERR to the code of its first failed check, 0 when none fails (R34, R223). -/
theorem issueWord_ERR {w : CmdWord} {s t : State} (h : issueWord w s = .next t) :
    t.ERR = refusalCode (opField w) (aField w) s := by
  obtain ⟨i, hd, hi⟩ | ⟨e, hd, he⟩ := issueWord_cases w s
  · rw [refusalCode_of_decode_ok hd]
    obtain ⟨hc, hx⟩ | ⟨-, hx⟩ := exec_cases i s
    · obtain rfl := Host.Outcome.next.inj ((hi.trans hx).symm.trans h)
      exact hc.symm
    · obtain rfl := Host.Outcome.next.inj ((hi.trans hx).symm.trans h)
      rfl
  · rw [refusalCode_of_decode_error hd]
    obtain rfl := Host.Outcome.next.inj (he.symm.trans h)
    rfl

end Sys2Proof.Machine

open Sys2Proof Sys2Proof.Machine

/-- Settles O21: the writes by `step_write`, the rest by the frames of a command and of a register write. -/
theorem operandRegistersKeepTheirValue : Obligations.OperandRegistersKeepTheirValue := by
  refine ⟨fun s v rest h => step_write (by decide) h, fun s v rest h => step_write (by decide) h,
    fun s => ⟨rfl, rfl⟩, fun s v rest h => ⟨cmdWord v s.ARGA s.ARGB, by simp, by simp, by simp, step_cmd h⟩,
    fun i s t h => ?_, fun s t h hne => ?_, fun s t h hne => ?_⟩
  · obtain ⟨ha, hb, -⟩ := exec_frame h
    exact ⟨ha, hb⟩
  · obtain ⟨rest, hp | ⟨v, -, hw⟩ | ⟨a, v, -, hp, rfl⟩⟩ := step_changes_register State.ARGA (fun _ => rfl) h hne
    · exact ⟨rest, .inl hp⟩
    · exact absurd (issueWord_operands hw).1 hne
    · obtain rfl : a = 0x001 := by_contra fun ha => hne (writeRegister_ARGA ha v _)
      exact ⟨rest, .inr ⟨v, hp⟩⟩
  · obtain ⟨rest, hp | ⟨v, -, hw⟩ | ⟨a, v, -, hp, rfl⟩⟩ := step_changes_register State.ARGB (fun _ => rfl) h hne
    · exact ⟨rest, .inl hp⟩
    · exact absurd (issueWord_operands hw).2 hne
    · obtain rfl : a = 0x002 := by_contra fun ha => hne (writeRegister_ARGB ha v _)
      exact ⟨rest, .inr ⟨v, hp⟩⟩

/-- Settles O24: a command word sets ERR to the code of R223, and no other write or read touches it. -/
theorem errIsOutcomeOfLatestCmdWrite : Obligations.ErrIsOutcomeOfLatestCmdWrite := by
  refine ⟨fun s t v rest hp h => ?_, fun s t h hne => ?_⟩
  · rw [step_cmd hp] at h
    simpa using issueWord_ERR h
  · obtain ⟨rest, hp | ⟨v, hp, -⟩ | ⟨a, v, -, -, rfl⟩⟩ := step_changes_register State.ERR (fun _ => rfl) h hne
    · exact ⟨rest, .inl hp⟩
    · exact ⟨rest, .inr ⟨v, hp⟩⟩
    · exact absurd (writeRegister_ERR a v _) hne

/-- Settles O25: an idle core accepts the three commands, and a step that changes R issues one of them. -/
theorem resultRegisterWriters : Obligations.ResultRegisterWriters := by
  refine ⟨fun s => rfl, fun s a b hidle =>
    ⟨⟨_, exec_accepts_of_idle rfl hidle, rfl⟩, ⟨_, exec_accepts_of_idle rfl hidle, rfl⟩,
      ⟨_, exec_accepts_of_idle rfl hidle, rfl⟩⟩, fun s t h hne => ?_⟩
  obtain ⟨rest, hp | ⟨v, hp, hw⟩ | ⟨a, v, -, -, rfl⟩⟩ := step_changes_register State.R (fun _ => rfl) h hne
  · exact ⟨rest, .inl hp⟩
  · obtain ⟨i, hd, hi⟩ := issueWord_R_changed hw hne
    exact ⟨rest, .inr ⟨v, i, hp, hd, hi⟩⟩
  · exact absurd (writeRegister_R a v _) hne

/-- Settles O1: every byte of the reset blocks and of the reset schedule is an entry of a constant vector. -/
theorem resetValues : Obligations.ResetValues := by
  refine ⟨fun i => ?_, fun i j => ?_, rfl, rfl, rfl, rfl, rfl, rfl, rfl, rfl, rfl, by decide, rfl⟩
  · simp [State.reset]
  · simp [State.reset]

end

section
/-! PROOFS of the memory family: reads, reserved addresses, and the two push registers of spec/20_memory.md. KEY_PUSH and
DIN_PUSH follow one rule (R69, R70), so a stream of pushes is run once, for any pair of a buffer and its counter. -/

namespace Sys2Proof.Machine

/-! ## Reads and writes of one address -/

/-- A read looks at the registers of R20 alone, not at the host's side of the bus. -/
@[simp] theorem busRead_coreOf (s : State) (a : Addr) : busRead (coreOf s) a = busRead s a := rfl

/-- The step of a read: the byte of the state before it, and no register changed (R64). -/
theorem step_read_eq {s : State} {a : Addr} {rest : List HostAction} (h : s.pending = .read a :: rest) :
    step s = .next { s with pending := rest, rdata := some (busRead s a) } := step_read h

/-- Reserved and write-only locations read 0x00 (R63). -/
theorem readLocation_reserved (s : State) {n : Nat}
    (h : n = 0x000 ∨ (0x009 ≤ n ∧ n ≤ 0x00F) ∨ (0x050 ≤ n ∧ n ≤ 0x0FF) ∨ 0x1B0 ≤ n) : readLocation s n = 0x00 := by
  simp (disch := omega) only [readLocation, if_neg, dif_neg]

/-- A write to a read-only or reserved address changes nothing (R63). -/
theorem writeRegister_readOnly {a : Addr} (h : (0x004 ≤ a.toNat ∧ a.toNat ≤ 0x008) ∨ 0x00B ≤ a.toNat) (v : Byte)
    (s : State) : writeRegister a v s = s := by
  obtain ⟨rfl, -⟩ | ⟨rfl, -⟩ | ⟨rfl, -⟩ | ⟨rfl, -⟩ | ⟨rfl, -⟩ | ⟨-, -, -, -, -, hw⟩ := writeRegister_cases a v s
  case inr.inr.inr.inr.inr => exact hw
  all_goals exact absurd h (by decide)

/-- A write that is no push writes at most ARGA, ARGB and TRACE (R61). -/
theorem writeRegister_eq_of_not_push {a : Addr} (h9 : a ≠ 0x009) (hA : a ≠ 0x00A) (v : Byte) (s : State) :
    writeRegister a v s =
      { s with
        ARGA := if a = 0x001 then v else s.ARGA
        ARGB := if a = 0x002 then v else s.ARGB
        TRACE := if a = 0x003 then v.getLsbD 0 else s.TRACE } := by
  rw [writeRegister_eq, if_neg h9, if_neg h9, if_neg hA, if_neg hA]

/-- A write that is no push stores the same byte again when it is repeated (R64). -/
theorem writeRegister_idempotent {a : Addr} (h9 : a ≠ 0x009) (hA : a ≠ 0x00A) (v : Byte) (s : State) :
    writeRegister a v (writeRegister a v s) = writeRegister a v s := by
  simp only [writeRegister_eq_of_not_push h9 hA, State.mk.injEq, true_and, and_true]
  refine ⟨?_, ?_, ?_⟩ <;> split <;> rfl

/-- After a register write the host's list and `rdata` are as its step left them, so a repeated write starts from there. -/
theorem takeAction_writeRegister (a : Addr) (v : Byte) (s : State) (rest acts : List HostAction) :
    ({ writeRegister a v (s.takeAction rest) with pending := acts } : State).takeAction rest =
      writeRegister a v (s.takeAction rest) := by
  rw [writeRegister_eq]
  rfl

/-! ## One push -/

/-- KEY and KLEN <- b, n. -/
def State.putKey (b : Block) (n : BitVec 5) (s : State) : State := { s with KEY := b, KLEN := n }

/-- DIN and DLEN <- b, n. -/
def State.putDin (b : Block) (n : BitVec 5) (s : State) : State := { s with DIN := b, DLEN := n }

/-- While PAUSED a push to KEY_PUSH has no effect (R69). -/
theorem step_keyPush_paused {s : State} {v : Byte} {rest : List HostAction}
    (h : s.pending = .write 0x009 v :: rest) (hp : s.PAUSED = true) : step s = .next (s.takeAction rest) := by
  rw [step_write (by decide) h]
  exact congrArg _ (if_pos hp)

/-- The same of DIN_PUSH (R70). -/
theorem step_dinPush_paused {s : State} {v : Byte} {rest : List HostAction}
    (h : s.pending = .write 0x00A v :: rest) (hp : s.PAUSED = true) : step s = .next (s.takeAction rest) := by
  rw [step_write (by decide) h]
  exact congrArg _ (if_pos hp)

/-- A push to KEY_PUSH with nothing paused stores the byte and counts it (R69). -/
theorem step_keyPush {s : State} {v : Byte} {rest : List HostAction} (h : s.pending = .write 0x009 v :: rest)
    (hp : s.PAUSED = false) :
    step s = .next ((s.takeAction rest).putKey (storePushed s.KEY s.KLEN v) (countUp s.KLEN)) := by
  rw [step_write (by decide) h]
  exact congrArg _ (if_neg (by simp [hp]))

/-- The same of DIN_PUSH (R70). -/
theorem step_dinPush {s : State} {v : Byte} {rest : List HostAction} (h : s.pending = .write 0x00A v :: rest)
    (hp : s.PAUSED = false) :
    step s = .next ((s.takeAction rest).putDin (storePushed s.DIN s.DLEN v) (countUp s.DLEN)) := by
  rw [step_write (by decide) h]
  exact congrArg _ (if_neg (by simp [hp]))

/-- A counter below 30 counts a first push and a second one. -/
theorem countUp_countUp_ne {n : BitVec 5} (h : n.toNat < 30) : countUp (countUp n) ≠ countUp n := by
  intro he
  have := congrArg BitVec.toNat he
  simp only [countUp_toNat] at this
  omega

/-! ## A stream of pushes -/

/-- A length counter after the bytes `bs` are pushed from the cleared state: it saturates at 31 (R69, R70). -/
def pushedCount (bs : List Byte) : BitVec 5 := BitVec.ofNat 5 (min bs.length 31)

@[simp] theorem pushedCount_toNat (bs : List Byte) : (pushedCount bs).toNat = min bs.length 31 := by
  simp only [pushedCount, BitVec.toNat_ofNat]
  omega

@[simp] theorem pushedCount_nil : pushedCount [] = 0 := rfl

/-- The one right length is counted after exactly 16 pushes (R69). -/
theorem pushedCount_eq_16_iff (bs : List Byte) : pushedCount bs = 16 ↔ bs.length = 16 := by
  rw [← BitVec.toNat_inj, pushedCount_toNat, show (16 : BitVec 5).toNat = 16 from rfl]
  omega

/-- One more push counts one more byte. -/
theorem countUp_pushedCount (bs : List Byte) (v : Byte) : countUp (pushedCount bs) = pushedCount (bs ++ [v]) := by
  apply BitVec.eq_of_toNat_eq
  simp only [countUp_toNat, pushedCount_toNat, List.length_append, List.length_singleton]
  omega

@[simp] theorem pushedBlock_getElem (bs : List Byte) (i : Fin 16) : (pushedBlock bs)[i] = bs.getD i.val 0 := by
  simp [pushedBlock]

@[simp] theorem pushedBlock_nil : pushedBlock [] = zeroBlock := by
  refine Vector.ext fun i hi => ?_
  simp [pushedBlock, zeroBlock]

/-- One more push appends its byte to the buffer, or is dropped when the buffer is full (R69, R70). -/
theorem storePushed_pushedBlock (bs : List Byte) (v : Byte) :
    storePushed (pushedBlock bs) (pushedCount bs) v = pushedBlock (bs ++ [v]) := by
  refine Vector.ext fun i hi => ?_
  have hs := storePushed_getElem (pushedBlock bs) (pushedCount bs) v ⟨i, hi⟩
  have hb := pushedBlock_getElem (bs ++ [v]) ⟨i, hi⟩
  simp only [pushedCount_toNat, pushedBlock_getElem] at hs
  refine hs.trans (Eq.trans ?_ hb.symm)
  obtain hlt | rfl | hgt := Nat.lt_trichotomy i bs.length
  · rw [if_neg (by omega), List.getD_append _ _ _ _ hlt]
  · rw [if_pos (by omega)]
    simp
  · rw [if_neg (by omega), List.getD_eq_default _ _ (by omega), List.getD_eq_default _ _ (by simp; omega)]

/-- `put` writes the buffer and the counter behind the push register at `addr`: with nothing paused, a push there stores
the byte and counts it. -/
def PushesInto (addr : Addr) (put : Block → BitVec 5 → State → State) : Prop :=
  ∀ (b : Block) (n : BitVec 5) (s : State) (v : Byte) (rest : List HostAction), s.PAUSED = false →
    s.pending = .write addr v :: rest →
      step (put b n s) = .next (put (storePushed b n v) (countUp n) (s.takeAction rest))

theorem keyPush_pushesInto : PushesInto 0x009 State.putKey :=
  fun b n s _ _ hp h => step_keyPush (s := s.putKey b n) h hp

theorem dinPush_pushesInto : PushesInto 0x00A State.putDin :=
  fun b n s _ _ hp h => step_dinPush (s := s.putDin b n) h hp

/-- A run goes on from the state its first step answers. -/
theorem run_succ_of_step {M : Host.Core} {s t : M.State} (h : M.step s = .next t) (k : Nat) :
    M.run (k + 1) s = M.run k t := by
  rw [Host.Core.run, h]

/-- A stream of pushes appends its bytes to those pushed before it and changes nothing else of the core. -/
theorem run_pushes {addr : Addr} {put : Block → BitVec 5 → State → State} (hput : PushesInto addr put)
    {rest : List HostAction} (bs pre : List Byte) {s : State} (hp : s.PAUSED = false)
    (h : s.pending = pushes addr bs ++ rest) :
    ∃ u : State, u.pending = rest ∧ coreOf u = coreOf s ∧
      core.run bs.length (put (pushedBlock pre) (pushedCount pre) s) =
        .next (put (pushedBlock (pre ++ bs)) (pushedCount (pre ++ bs)) u) := by
  induction bs generalizing pre s with
  | nil => exact ⟨s, h, rfl, by rw [List.append_nil]; rfl⟩
  | cons v bs ih =>
    obtain ⟨u, hu, hc, hr⟩ := ih (pre ++ [v]) (s := s.takeAction (pushes addr bs ++ rest)) hp rfl
    refine ⟨u, hu, hc, ?_⟩
    have hstep := hput (pushedBlock pre) (pushedCount pre) s v _ hp h
    rw [storePushed_pushedBlock, countUp_pushedCount] at hstep
    simpa using (run_succ_of_step (M := core) hstep bs.length).trans hr

/-- A stream of pushes from the cleared buffer (R69, R70). -/
theorem run_pushes_from_cleared {addr : Addr} {put : Block → BitVec 5 → State → State} (hput : PushesInto addr put)
    {rest : List HostAction} (bs : List Byte) {s : State} (hp : s.PAUSED = false)
    (h : s.pending = pushes addr bs ++ rest) :
    ∃ u : State, u.pending = rest ∧ coreOf u = coreOf s ∧
      core.run bs.length (put zeroBlock 0 s) = .next (put (pushedBlock bs) (pushedCount bs) u) := by
  simpa using run_pushes hput bs [] hp h

/-! ## What returns a counter to 0 -/

/-- A register write keeps KLEN or counts it up, never to 0. -/
theorem writeRegister_KLEN (a : Addr) (v : Byte) (s : State) :
    (writeRegister a v s).KLEN = s.KLEN ∨ (writeRegister a v s).KLEN = countUp s.KLEN := by
  rw [writeRegister_eq]
  by_cases ha : a = 0x009
  · obtain ⟨-, hk⟩ | ⟨-, hk⟩ := pushKey_cases v s <;> simp [ha, hk]
  · exact .inl (if_neg ha)

/-- A register write keeps DLEN or counts it up, never to 0. -/
theorem writeRegister_DLEN (a : Addr) (v : Byte) (s : State) :
    (writeRegister a v s).DLEN = s.DLEN ∨ (writeRegister a v s).DLEN = countUp s.DLEN := by
  rw [writeRegister_eq]
  by_cases ha : a = 0x00A
  · obtain ⟨-, hk⟩ | ⟨-, hk⟩ := pushDin_cases v s <;> simp [ha, hk]
  · exact .inl (if_neg ha)

/-- A run of the sequencer keeps both counters and stays as it was, paused or not, or it ends in CLR (R188). -/
theorem runLoop_keeps_or_clears (fuel : Nat) (s : State) :
    ((runLoop fuel s).KLEN = s.KLEN ∧ (runLoop fuel s).DLEN = s.DLEN ∧ (runLoop fuel s).PAUSED = s.PAUSED) ∨
    ((runLoop fuel s).KLEN = 0 ∧ (runLoop fuel s).DLEN = 0 ∧ (runLoop fuel s).PAUSED = false) := by
  induction fuel generalizing s with
  | zero => exact .inl ⟨rfl, rfl, rfl⟩
  | succ k ih =>
    by_cases h : s.STEP.val + 1 < 44
    · have hclr : currentEntry s ≠ .clr := fun he => by
        have hlast : s.STEP = 43 := (entryAt_clr_iff s.DIR s.STEP).1 he
        simp [hlast] at h
      have hentry := ((performEntry_cases (currentEntry s) s).resolve_left fun hc => hclr hc.1).2
      rw [runLoop_succ_of_lt h, hentry]
      split
      · exact .inl ⟨rfl, rfl, rfl⟩
      · exact ih _
    · rw [runLoop_succ_of_last (Fin.ext (by omega : s.STEP.val = 43))]
      exact .inr ⟨rfl, rfl, rfl⟩

/-- A command other than ENC, DEC, CONT and CLR keeps both counters (R41). -/
theorem effectOf_counts (i : Instr) (s : State) :
    ((effectOf i s).KLEN = s.KLEN ∧ (effectOf i s).DLEN = s.DLEN) ∨ i ∈ ([.enc, .dec, .cont, .clr] : List Instr) := by
  cases i with
  | enc | dec | cont | clr => simp
  | ark a => by_cases h : a.toNat ≤ 10 <;> simp [effectOf, h]
  | _ => simp [effectOf]

/-- The same of a command word: only the op bytes of those four can change a counter. -/
theorem issueWord_counts {w : CmdWord} {s t : State} (h : issueWord w s = .next t) :
    (t.KLEN = s.KLEN ∧ t.DLEN = s.DLEN) ∨ opField w ∈ ([0x20, 0x28, 0x30, 0x31] : List Byte) := by
  obtain ⟨i, hd, hi⟩ | ⟨e, -, he⟩ := issueWord_cases w s
  · obtain ⟨-, hx⟩ | ⟨-, hx⟩ := exec_cases i s
    · obtain rfl := Host.Outcome.next.inj ((hi.trans hx).symm.trans h)
      obtain hkeep | hmem := effectOf_counts i s
      · exact .inl hkeep
      · right
        rw [(decode_ok_fields hd).1]
        fin_cases hmem <;> simp [encode]
    · obtain rfl := Host.Outcome.next.inj ((hi.trans hx).symm.trans h)
      exact .inl ⟨rfl, rfl⟩
  · obtain rfl := Host.Outcome.next.inj (he.symm.trans h)
    exact .inl ⟨rfl, rfl⟩

/-! ## ENC issued twice -/

theorem decode_cmdWord_enc (a b : Byte) : decode (cmdWord 0x20 a b) = .ok .enc := by
  simp [decode]

/-- The step of a CMD write of ENC's op byte. -/
theorem step_enc {s : State} {rest : List HostAction} (h : s.pending = .write 0x000 0x20 :: rest) :
    step s = exec .enc (s.takeAction rest) := by
  rw [step_cmd h, issueWord, decode_cmdWord_enc]

/-- ENC is accepted exactly from an idle core with both lengths right (R189, R223). -/
theorem enc_accepted_iff (s : State) :
    firstError (checksOf .enc s) = .noError ↔ s.PAUSED = false ∧ s.DLEN = 16 ∧ s.KLEN = 16 := by
  simp only [checksOf, firstError_checkIdle, firstError_checkBlockLength, firstError_checkKeyLength, firstError_nil]
  split_ifs <;> simp_all

/-- An accepted ENC leaves a paused sequence or, cleared, no input, so a second ENC is refused. -/
theorem enc_after_enc_refused (s : State) : firstError (checksOf .enc ((effectOf .enc s).setERR .noError)) ≠ .noError := by
  rw [Ne, enc_accepted_iff]
  rintro ⟨hidle, hlen, -⟩
  obtain ⟨-, -, hpaused⟩ | ⟨-, hzero, -⟩ := runLoop_keeps_or_clears 44 (s.beginSequence .encryption)
  · exact absurd (hpaused.symm.trans hidle) (by simp)
  · exact absurd (hzero.symm.trans hlen) (by decide)

/-- The step of an accepted ENC: no error, and a state in which ENC would be refused. -/
theorem step_enc_accepted {s : State} {rest : List HostAction} (h : s.pending = .write 0x000 0x20 :: rest)
    (hp : s.PAUSED = false) (hd : s.DLEN = 16) (hk : s.KLEN = 16) :
    ∃ t, step s = .next t ∧ t.ERR = .noError ∧ t.pending = rest ∧ firstError (checksOf .enc t) ≠ .noError := by
  have hfirst := (enc_accepted_iff (s.takeAction rest)).2 ⟨hp, hd, hk⟩
  refine ⟨(effectOf .enc (s.takeAction rest)).setERR .noError, ?_, rfl, ?_, enc_after_enc_refused _⟩
  · exact (step_enc h).trans ((exec_cases .enc _).resolve_right fun hr => hr.1 hfirst).2
  · simp [effectOf_frame]

/-- The step of a refused ENC leaves an error code. -/
theorem step_enc_refused {s : State} {rest : List HostAction} (h : s.pending = .write 0x000 0x20 :: rest)
    (hf : firstError (checksOf .enc s) ≠ .noError) : ∃ u, step s = .next u ∧ u.ERR ≠ .noError :=
  ⟨_, (step_enc h).trans ((exec_cases .enc (s.takeAction rest)).resolve_left fun hl => hf hl.1).2, hf⟩

end Sys2Proof.Machine

open Sys2Proof Sys2Proof.Machine

/-- Settles O19: one push by `step_keyPush`, a stream of them by `run_pushes_from_cleared`; of the steps that change KLEN, a
register write only counts up, and of the commands only ENC, DEC, CONT and CLR touch it. -/
theorem keyPush : Obligations.KeyPush := by
  refine ⟨fun s v rest h hp => step_keyPush_paused h hp, fun s v rest h hp =>
    ⟨_, step_keyPush h hp, rfl, countUp_toNat _, storePushed_getElem _ _ _⟩, fun s bs rest hp hlen hkey h => ?_,
    fun s t h hne hzero => ?_⟩
  · obtain ⟨u, hu, hc, hr⟩ := run_pushes_from_cleared keyPush_pushesInto bs hp h
    rw [← hkey, ← hlen] at hr
    exact ⟨_, hr, hu, congrArg (State.putKey (pushedBlock bs) (pushedCount bs)) hc, pushedCount_eq_16_iff bs⟩
  · obtain ⟨rest, hp | ⟨op, hp, hw⟩ | ⟨a, v, -, -, rfl⟩⟩ :=
      step_changes_register State.KLEN (fun _ => rfl) h fun e => hne (e ▸ hzero)
    · exact ⟨rest, .inl hp⟩
    · obtain ⟨hk, -⟩ | hop := issueWord_counts hw
      · exact absurd (hk.symm.trans hzero) hne
      · exact ⟨rest, .inr ⟨op, by rwa [opField_cmdWord] at hop, hp⟩⟩
    · obtain hk | hk := writeRegister_KLEN a v (s.takeAction rest)
      · exact absurd (hk.symm.trans hzero) hne
      · exact absurd (hk.symm.trans hzero) (countUp_ne_zero _)

/-- Settles O20: as O19, with the rules of DIN_PUSH and DLEN. -/
theorem dinPush : Obligations.DinPush := by
  refine ⟨fun s v rest h hp => step_dinPush_paused h hp, fun s v rest h hp =>
    ⟨_, step_dinPush h hp, rfl, countUp_toNat _, storePushed_getElem _ _ _⟩, fun s bs rest hp hlen hdin h => ?_,
    fun s t h hne hzero => ?_⟩
  · obtain ⟨u, hu, hc, hr⟩ := run_pushes_from_cleared dinPush_pushesInto bs hp h
    rw [← hdin, ← hlen] at hr
    exact ⟨_, hr, hu, congrArg (State.putDin (pushedBlock bs) (pushedCount bs)) hc, pushedCount_eq_16_iff bs⟩
  · obtain ⟨rest, hp | ⟨op, hp, hw⟩ | ⟨a, v, -, -, rfl⟩⟩ :=
      step_changes_register State.DLEN (fun _ => rfl) h fun e => hne (e ▸ hzero)
    · exact ⟨rest, .inl hp⟩
    · obtain ⟨-, hd⟩ | hop := issueWord_counts hw
      · exact absurd (hd.symm.trans hzero) hne
      · exact ⟨rest, .inr ⟨op, by rwa [opField_cmdWord] at hop, hp⟩⟩
    · obtain hd | hd := writeRegister_DLEN a v (s.takeAction rest)
      · exact absurd (hd.symm.trans hzero) hne
      · exact absurd (hd.symm.trans hzero) (countUp_ne_zero _)

/-- Settles O17: a write that is no push and no command is idempotent by `writeRegister_idempotent`; a second push counts
again by `countUp_countUp_ne`; a second ENC is refused by `enc_after_enc_refused`. -/
theorem readsHaveNoSideEffects : Obligations.ReadsHaveNoSideEffects := by
  refine ⟨fun s a rest h => step_read_eq h, fun s t h a => ?_, fun s a v rest h0 h9 hA h => ?_,
    fun s v rest hp hlt h => ⟨_, _, step_keyPush h hp, step_keyPush rfl hp, countUp_countUp_ne hlt⟩,
    fun s v rest hp hlt h => ⟨_, _, step_dinPush h hp, step_dinPush rfl hp, countUp_countUp_ne hlt⟩,
    fun s rest hp hk hd h => ?_⟩
  · rw [← busRead_coreOf s, h, busRead_coreOf]
  · refine ⟨_, step_write h0 h, by rw [writeRegister_eq_of_not_push h9 hA]; rfl, ?_⟩
    rw [step_write (s := { writeRegister a v (s.takeAction rest) with pending := s.pending }) h0 h,
      takeAction_writeRegister, writeRegister_idempotent h9 hA]
  · obtain ⟨t, hst, hterr, htpending, hrefused⟩ := step_enc_accepted h hp hd hk
    obtain ⟨u, hsu, huerr⟩ := step_enc_refused htpending hrefused
    exact ⟨t, u, hst, hsu, hterr, huerr⟩

/-- Settles O18: reserved and write-only locations read 0x00, a write to a read-only address keeps the state, and neither a
read nor a register write touches ERR. -/
theorem reservedAndReadOnlyAccesses : Obligations.ReservedAndReadOnlyAccesses := by
  refine ⟨fun s a rest h ha => ?_, fun s a v rest h ha => ?_, fun s t a rest h hs => ?_,
    fun s t a v rest h0 h hs => ?_⟩
  · have hzero : busRead s a = 0x00 := readLocation_reserved s (by
      obtain rfl | rfl | ha := ha
      · exact .inl rfl
      · exact .inr (.inl (by decide))
      · omega)
    rw [step_read_eq h, hzero]
  · rw [step_write (by rintro rfl; exact absurd ha (by decide)) h, writeRegister_readOnly ha]
    rfl
  · obtain rfl := Host.Outcome.next.inj ((step_read h).symm.trans hs)
    rfl
  · obtain rfl := Host.Outcome.next.inj ((step_write h0 h).symm.trans hs)
    simp

end

section
/-! PROOFS of the encoding family: the decoder of spec/30_encoding.md R94 word by word, refused or selected, and what issuing
a refused word does (R95). -/

namespace Sys2Proof.Machine

/-- An op outside R92 is refused by name, whatever the operand bytes (R95). -/
theorem decode_of_unassigned {w : CmdWord} (h : opField w ∉ assignedOps) :
    decode w = .error (.unassignedOp (opField w)) := by
  unfold decode
  dsimp only
  split
  case h_18 => rfl
  all_goals
    rename_i hop
    exact absurd (by rw [hop]; decide) h

/-- ARK with an index above 10 is refused (R95). -/
theorem decode_of_roundKeyIndex {w : CmdWord} (hop : opField w = 0x03) (ha : 10 < (aField w).toNat) :
    decode w = .error (.roundKeyIndex (aField w)) := by
  simp [decode, hop, Config.lastRoundKey, ha]

/-- Exactly the words the decoder refuses (R94, R95). -/
theorem decode_error_iff (w : CmdWord) :
    (∃ e, decode w = .error e) ↔ opField w ∉ assignedOps ∨ (opField w = 0x03 ∧ 10 < (aField w).toNat) := by
  constructor
  · rintro ⟨e, he⟩
    exact decode_error_cause he
  · rintro (h | ⟨hop, ha⟩)
    · exact ⟨_, decode_of_unassigned h⟩
    · exact ⟨_, decode_of_roundKeyIndex hop ha⟩

/-- The decoder selects ARK with a legal index only (R92, R95). -/
theorem wellFormed_of_decode_ok {w : CmdWord} {i : Instr} (h : decode w = .ok i) : i.wellFormed = true := by
  cases i with
  | ark a => exact decide_eq_true ((decode_ok_fields h).2 a rfl).2
  | _ => rfl

/-- A command the decoder selects has the word's bytes in the operand fields it uses (R90, R94). -/
theorem decode_ok_operands {w : CmdWord} {i : Instr} (h : decode w = .ok i) :
    (usesA i = true → aField (encode i) = aField w) ∧ (usesB i = true → bField (encode i) = bField w) := by
  unfold decode at h
  dsimp only at h
  split at h
  case h_3 =>
    split at h
    · cases h
      simp [encode, usesB]
    · cases h
  case h_18 => cases h
  all_goals
    cases h
    simp [encode, usesA, usesB]

/-- The three commands with free operand bytes take every value of them (R95). -/
theorem decode_free_operands (a b : Byte) :
    decode (cmdWord 0x10 a b) = .ok (.gfmul a b) ∧ decode (cmdWord 0x11 a b) = .ok (.sbox a) ∧
      decode (cmdWord 0x19 a b) = .ok (.isbox a) := by
  simp [decode]

/-- Issuing a word the decoder refuses raises IllegalCommand (R95, R222). -/
theorem issueWord_of_decode_error {w : CmdWord} {e : DecodeError} (h : decode w = .error e) (s : State) :
    issueWord w s = .next (raiseError .illegalCommand s) := by
  obtain ⟨i, hd, -⟩ | ⟨-, -, hr⟩ := issueWord_cases w s
  · cases h.symm.trans hd
  · exact hr

end Sys2Proof.Machine

open Sys2Proof Sys2Proof.Machine

/-- Settles O8: the refused words by `decode_error_iff`, the selected command's op by `decode_ok_fields` and its operand
bytes by `decode_ok_operands`. -/
theorem decodeSelectsTheCommand : Obligations.DecodeSelectsTheCommand := by
  refine fun w => ⟨decode_error_iff w, fun i h => ?_⟩
  obtain ⟨hop, -⟩ := decode_ok_fields h
  exact ⟨wellFormed_of_decode_ok h, hop.symm, decode_ok_operands h⟩

/-- Settles O13: an illegal word fails to decode by `decode_error_iff`, and the step of its CMD write then only sets ERR. -/
theorem illegalWordRaisesIllegalCommand : Obligations.IllegalWordRaisesIllegalCommand := by
  refine ⟨fun s v rest h hill => ?_, by decide, by decide, by decide, by decide, decode_free_operands⟩
  obtain ⟨e, he⟩ := (decode_error_iff (cmdWord v s.ARGA s.ARGB)).2 (by simpa using hill)
  rw [step_cmd h, issueWord_of_decode_error he, raiseError_eq]
  rfl

/-- Settles O10: the op bytes of the ten commands, and seven op values that are not assigned (`decode_of_unassigned`). -/
theorem directionBitPairs : Obligations.DirectionBitPairs := by
  refine ⟨by decide, by decide, by decide, fun a => ?_, by decide, by decide, by decide, by decide, fun a => ?_, by decide,
    fun op hop a b => ?_⟩
  · simp [encode]
  · simp [encode]
  · have hun : op ∉ assignedOps := by
      revert op
      decide
    simpa using decode_of_unassigned (w := cmdWord op a b) (by simpa using hun)

end

section
/-! PROOFS of the arithmetic family: the loop of spec/40_gf_arithmetic.md R110 at the operands 0 and 1, and GFMUL (R111). -/

namespace Sys2Proof.Machine

/-- A paused core refuses a command that must find it idle, whatever else the command checks (R223). -/
theorem exec_refuses_of_paused {i : Instr} {s : State} {rest : List ErrCode} (hc : checksOf i s = checkIdle s :: rest)
    (h : s.PAUSED = true) : exec i s = .next (raiseError .illegalCommand s) := by
  rw [exec_eq_issue, hc]
  exact issue_refuses (by rw [firstError_checkIdle, if_pos h]) (by decide) _ _

/-! ## The multiplier at 0 and 1 -/

@[simp] theorem xtime_zero : xtime 0#8 = 0#8 := by decide

/-- Once no bit of the multiplier is left, the accumulator stays. -/
theorem gfLoop_multiplier_zero (k : Nat) (acc a : Byte) : gfLoop k acc a 0#8 = acc := by
  induction k generalizing acc a with
  | zero => rfl
  | succ k ih => simpa [gfLoop] using ih acc (xtime a)

/-- A zero multiplicand adds nothing to the accumulator. -/
theorem gfLoop_multiplicand_zero (k : Nat) (acc b : Byte) : gfLoop k acc 0#8 b = acc := by
  induction k generalizing b with
  | zero => rfl
  | succ k ih => simpa [gfLoop] using ih (b >>> 1)

@[simp] theorem gfMultiply_zero_right (a : Byte) : gfMultiply a 0#8 = 0#8 := gfLoop_multiplier_zero 8 0 a

@[simp] theorem gfMultiply_zero_left (b : Byte) : gfMultiply 0#8 b = 0#8 := gfLoop_multiplicand_zero 8 0 b

/-- The one set bit of the multiplier adds `a` in the first iteration; no bit is left for the other seven. -/
@[simp] theorem gfMultiply_one_right (a : Byte) : gfMultiply a 1#8 = a := by
  have hfirst : gfMultiply a 1#8 = gfLoop 7 a (xtime a) 0#8 := by simp [gfMultiply, gfLoop]
  rw [hfirst, gfLoop_multiplier_zero]

/-- The multiplicand runs through the powers of two, so the accumulator collects the bits of `b`: checked byte by byte. -/
@[simp] theorem gfMultiply_one_left (b : Byte) : gfMultiply 1#8 b = b := by
  revert b
  decide

end Sys2Proof.Machine

open Sys2Proof Sys2Proof.Machine

/-- Settles O37: the command's only check is that the core is idle, so it is accepted by `exec_accepts_of_idle` and refused
by `exec_refuses_of_paused`; 0 and 1 by the lemmas on the loop. -/
theorem gfmulMultipliesBytes : Obligations.GfmulMultipliesBytes := by
  refine ⟨fun a b => rfl, fun s a b hidle => exec_accepts_of_idle rfl hidle, fun s a b hpaused => ?_, fun a => ?_,
    by decide, by decide⟩
  · rw [exec_refuses_of_paused rfl hpaused, raiseError_eq]
  · exact ⟨gfMultiply_zero_right a, gfMultiply_zero_left a, gfMultiply_one_right a, gfMultiply_one_left a⟩

end

section
/-! PROOFS of the constant tables family: SBOX and ISBOX of spec/41_constant_tables.md as functions on the bytes, and the
two commands that read one entry (R122, R126). -/

namespace Sys2Proof.Machine

/-! ## The tables undo each other -/

/-- R124's definition of ISBOX holds of the listing of R125, checked entry by entry. -/
@[simp] theorem isbox_sbox (x : Byte) : isbox (sbox x) = x := by
  revert x
  decide

/-- The other order needs no second check: an injective map of the 256 bytes is onto, so its left inverse is its right
inverse too (R124). -/
@[simp] theorem sbox_isbox (y : Byte) : sbox (isbox y) = y := by
  have hleft : Function.LeftInverse isbox sbox := isbox_sbox
  have honto : Function.Surjective sbox := Finite.surjective_of_injective hleft.injective
  exact hleft.rightInverse_of_surjective honto y

/-- An entry of SBOX is found at the index ISBOX names, and nowhere else. -/
theorem sbox_eq_iff (a y : Byte) : sbox a = y ↔ a = isbox y := by
  constructor
  · rintro rfl
    exact (isbox_sbox a).symm
  · rintro rfl
    exact sbox_isbox y

end Sys2Proof.Machine

open Sys2Proof Sys2Proof.Machine

/-- Settles O44: the first order by `isbox_sbox`, the second because SBOX is a permutation (`sbox_isbox`). -/
theorem substitutionTablesInverse : Obligations.SubstitutionTablesInverse :=
  ⟨isbox_sbox, sbox_isbox⟩

/-- Settles O38: both commands check only that the core is idle, so they are accepted by `exec_accepts_of_idle` and refused
by `exec_refuses_of_paused`; the one operand with result zero is ISBOX's entry 0 (`sbox_eq_iff`). -/
theorem tableLookupCommands : Obligations.TableLookupCommands := by
  refine ⟨fun a => ⟨rfl, rfl⟩, fun s a hidle => ⟨exec_accepts_of_idle rfl hidle, exec_accepts_of_idle rfl hidle⟩,
    fun s a hpaused => ?_, ⟨by decide, by decide, by decide, fun a => sbox_eq_iff a 0x00⟩,
    by decide, by decide, by decide, by decide, isbox_sbox⟩
  rw [exec_refuses_of_paused rfl hpaused, exec_refuses_of_paused rfl hpaused, raiseError_eq]
  exact ⟨rfl, rfl⟩

end

section
/-! PROOFS of the key schedule family: the loop of spec/42_key_schedule.md R143 run once, as an invariant of its passes, and
the round keys and KEXP read off from it (R144, R146). -/

namespace Sys2Proof.Machine

/-! ## The word helpers, byte by byte -/

/-- `rotate_word` takes the byte one place higher, the last one the first (R140). -/
theorem rotateWord_getElem (t : Word) (b : Fin 4) :
    (rotateWord t)[b] = t[(b.val + 1) % 4]'(Nat.mod_lt _ (by decide)) := by
  fin_cases b <;> rfl

theorem subWord_getElem (t : Word) (b : Fin 4) : (subWord t)[b] = sbox t[b] := by
  fin_cases b <;> rfl

theorem xorWords_getElem (u v : Word) (b : Fin 4) : (xorWords u v)[b] = u[b] ^^^ v[b] := by
  fin_cases b <;> rfl

/-- The round constant stands in byte 0 (R127). -/
theorem rconWord_getElem (k : Fin 10) (b : Fin 4) : (rconWord k)[b] = if b = 0 then rcon k else 0x00 := by
  fin_cases b <;> rfl

/-- The first four words of the loop's start are the key, word by word (R143). -/
theorem keyWords_getElem (key : Block) (j b : Fin 4) : (keyWords key)[j.val][b] = key[4 * j.val + b.val] := by
  simp only [keyWords, Vector.getElem_ofFn, dif_pos j.isLt]
  fin_cases b <;> rfl

/-! ## One pass of the loop of R143 -/

/-- `temp` of R143 at index n + 4: the word before, rotated, substituted and given its round constant where a round
begins. -/
def scheduleTemp (w : Schedule) (n : Fin 40) : Word :=
  if n.val % 4 = 0 then xorWords (subWord (rotateWord w[n.val + 3])) (rconWord ⟨n.val / 4, by omega⟩) else w[n.val + 3]

/-- The word a pass stores. -/
theorem expandAt_getElem_self (w : Schedule) (n : Fin 40) :
    (expandAt w n)[n.val + 4] = xorWords w[n.val] (scheduleTemp w n) :=
  Vector.getElem_set_self _

/-- A pass keeps every other word. -/
theorem expandAt_getElem_of_ne (w : Schedule) (n : Fin 40) {i : Nat} (hi : i < 44) (h : n.val + 4 ≠ i) :
    (expandAt w n)[i] = w[i] :=
  Vector.getElem_set_ne (by omega) hi h

/-- The words a schedule holds after the passes before index n + 4: the key's, then `n` of the recurrence. -/
structure ExpandedTo (key : Block) (n : Nat) (w : Schedule) : Prop where
  keyWord : ∀ j : Fin 4, w[j.val] = (keyWords key)[j.val]
  recurrence : ∀ m : Fin 40, m.val < n → w[m.val + 4] = xorWords w[m.val] (scheduleTemp w m)

/-- The pass at index n + 4 adds that word: the ones it is computed from lie below it. -/
theorem expandAt_expandedTo {key : Block} {n : Fin 40} {w : Schedule} (h : ExpandedTo key n.val w) :
    ExpandedTo key (n.val + 1) (expandAt w n) where
  keyWord j := (expandAt_getElem_of_ne w n _ (by omega)).trans (h.keyWord j)
  recurrence m hm := by
    have hword : (expandAt w n)[m.val] = w[m.val] := expandAt_getElem_of_ne w n _ (by omega)
    have htemp : scheduleTemp (expandAt w n) m = scheduleTemp w m := by
      simp only [scheduleTemp, expandAt_getElem_of_ne w n (show m.val + 3 < 44 by omega) (by omega)]
    rw [hword, htemp]
    obtain hlt | heq := Nat.lt_succ_iff_lt_or_eq.1 hm
    · exact (expandAt_getElem_of_ne w n _ (by omega)).trans (h.recurrence m hlt)
    · obtain rfl : m = n := Fin.ext heq
      exact expandAt_getElem_self w m

/-! ## The whole loop -/

/-- A property that holds before the first of `N` passes and is carried by each holds after the last. -/
theorem foldl_finRange_invariant {α : Type} {N : Nat} (P : Nat → α → Prop) (f : α → Fin N → α) {x : α} (hzero : P 0 x)
    (hstep : ∀ (n : Fin N) (y : α), P n.val y → P (n.val + 1) (f y n)) : P N ((List.finRange N).foldl f x) := by
  rw [← Fin.foldl_eq_foldl_finRange]
  induction N with
  | zero => exact hzero
  | succ N ih =>
    rw [Fin.foldl_succ_last]
    exact hstep (Fin.last N) _ (ih _ fun n y hy => hstep n.castSucc y hy)

/-- `expand_key` gives the key's four words and the recurrence at all 40 indices after them (R143). -/
theorem expandKey_expanded (key : Block) : ExpandedTo key 40 (expandKey key) :=
  foldl_finRange_invariant (ExpandedTo key) expandAt ⟨fun _ => rfl, fun _ hm => absurd hm (Nat.not_lt_zero _)⟩
    fun _ _ => expandAt_expandedTo

/-- The first four words of an expanded key are the key, byte by byte. -/
theorem expandKey_keyByte (key : Block) (j b : Fin 4) : (expandKey key)[j.val][b] = key[4 * j.val + b.val] := by
  rw [(expandKey_expanded key).keyWord j, keyWords_getElem]

/-- One byte of `temp` of R143. -/
theorem scheduleTemp_getElem (w : Schedule) (n : Fin 40) (b : Fin 4) :
    (scheduleTemp w n)[b] =
      if n.val % 4 = 0 then
        sbox (w[n.val + 3][(b.val + 1) % 4]'(Nat.mod_lt _ (by decide))) ^^^
          (if b = 0 then rcon ⟨n.val / 4, by omega⟩ else 0x00)
      else w[n.val + 3][b] := by
  unfold scheduleTemp
  split
  · rw [xorWords_getElem, subWord_getElem, rotateWord_getElem, rconWord_getElem]
  · rfl

/-- The recurrence of an expanded key at index n + 4, byte by byte (R143). -/
theorem expandKey_recurrenceByte (key : Block) (n : Fin 40) (b : Fin 4) :
    (expandKey key)[n.val + 4][b] = (expandKey key)[n.val][b] ^^^ (scheduleTemp (expandKey key) n)[b] := by
  rw [(expandKey_expanded key).recurrence n n.isLt, xorWords_getElem]

/-! ## Round keys -/

/-- Round key k added to a block, byte by byte: byte i takes byte i % 4 of word 4k + i / 4 (R146). -/
theorem addRoundKey_roundKeyWords_getElem (s : Block) (w : Schedule) (k : Fin 11) (i : Fin 16) :
    (addRoundKey s (roundKeyWords w k))[i] =
      s[i] ^^^ (w[4 * k.val + i.val / 4]'(by omega))[i.val % 4]'(Nat.mod_lt _ (by decide)) := by
  rw [getElem_eq_byteAt, addRoundKey, byteAt_ofMatrix, ← getElem_eq_byteAt]
  simp [roundKeyWords, rowOf, colOf]

/-! ## Acceptance -/

/-- A command performs its effect when no check of it fails (R223). -/
theorem exec_accepts {i : Instr} {s : State} (h : firstError (checksOf i s) = .noError) :
    exec i s = .next ((effectOf i s).setERR .noError) := by
  rw [exec_eq_issue]
  exact issue_accepts h _ _

/-- A command sets ERR alone when a check of it fails (R223, R224). -/
theorem exec_refuses {i : Instr} {s : State} {e : ErrCode} (h : firstError (checksOf i s) = e) (he : e ≠ .noError) :
    exec i s = .next (raiseError e s) := by
  rw [exec_eq_issue]
  exact issue_refuses h he _ _

end Sys2Proof.Machine

open Sys2Proof Sys2Proof.Machine

/-- Settles O40: the loop invariant `ExpandedTo` gives the recurrence (`expandKey_recurrenceByte`), and `temp` byte by byte
is `scheduleTemp_getElem`. -/
theorem keyExpansionRecurrence : Obligations.KeyExpansionRecurrence := by
  refine fun key => ⟨expandKey_keyByte key, fun i hi h4 b => ?_⟩
  obtain ⟨n, rfl⟩ := Nat.exists_eq_add_of_le' h4
  have hbyte := expandKey_recurrenceByte key ⟨n, by omega⟩ b
  rw [scheduleTemp_getElem] at hbyte
  simpa using hbyte

/-- Settles O30: KEXP checks that the core is idle, then that KLEN is 16; its effect is the write of W. -/
theorem kexpExpandsKey : Obligations.KexpExpandsKey := by
  refine ⟨rfl, fun s hidle hlen => ?_, fun s hidle hlen => ?_, fun s hpaused => ?_⟩
  · rw [exec_accepts (by simp [checksOf, checkIdle_of_idle hidle, checkKeyLength_of_right hlen]), effectOf,
      State.setW, State.setERR]
  · exact exec_refuses (by simp [checksOf, checkIdle_of_idle hidle, checkKeyLength_of_wrong hlen]) (by decide)
  · exact exec_refuses_of_paused rfl hpaused

/-- Settles O41: round key 0 of an expanded key takes its bytes from the four key words (`expandKey_keyByte`). -/
theorem roundKeyZeroIsKey : Obligations.RoundKeyZeroIsKey := by
  refine ⟨fun w k s i => addRoundKey_roundKeyWords_getElem s w k i, fun key s i => ?_⟩
  have hbyte := expandKey_keyByte key (colOf i) (rowOf i)
  have hindex : 4 * (i.val / 4) + i.val % 4 = i.val := Nat.div_add_mod _ _
  rw [addRoundKey_roundKeyWords_getElem]
  simpa [rowOf, colOf, hindex] using hbyte

/-- Settles O58: each helper byte by byte. -/
theorem wordHelpers : Obligations.WordHelpers :=
  ⟨fun _ _ _ _ => rfl, subWord_getElem, xorWords_getElem⟩

end

section
/-! PROOFS of the State transforms family (spec/43_state_transforms.md): the laws of the multiplier of R110 that the matrices
of R160 and R162 need, the transforms byte by byte, and the seven commands (R151 to R164). -/

namespace Sys2Proof.Machine

/-! ## Laws of the multiplier (R112) -/

/-- Doubling is additive: shifting is, and 0x1B is added where exactly one of the two bytes has bit 7. -/
theorem xtime_xor (a b : Byte) : xtime (a ^^^ b) = xtime a ^^^ xtime b := by
  simp only [xtime, BitVec.getLsbD_xor, BitVec.shiftLeft_xor_distrib]
  cases a.getLsbD 7 <;> cases b.getLsbD 7
  case false.false => rfl
  case false.true => exact BitVec.xor_assoc _ _ _
  case true.false =>
    show a <<< 1 ^^^ b <<< 1 ^^^ 0x1B#8 = a <<< 1 ^^^ 0x1B#8 ^^^ b <<< 1
    ac_rfl
  case true.true =>
    calc a <<< 1 ^^^ b <<< 1
      _ = a <<< 1 ^^^ b <<< 1 ^^^ (0x1B#8 ^^^ 0x1B#8) := by simp
      _ = a <<< 1 ^^^ 0x1B#8 ^^^ (b <<< 1 ^^^ 0x1B#8) := by ac_rfl

/-- The loop is additive in the accumulator and the multiplicand. -/
theorem gfLoop_xor (k : Nat) (acc acc' a a' b : Byte) :
    gfLoop k (acc ^^^ acc') (a ^^^ a') b = gfLoop k acc a b ^^^ gfLoop k acc' a' b := by
  induction k generalizing acc acc' a a' b with
  | zero => rfl
  | succ k ih =>
    have hacc : acc ^^^ acc' ^^^ (a ^^^ a') = (acc ^^^ a) ^^^ (acc' ^^^ a') := by ac_rfl
    simp only [gfLoop, xtime_xor]
    split
    · rw [hacc, ih]
    · rw [ih]

/-- Doubling the accumulator and the multiplicand doubles the result. -/
theorem gfLoop_xtime (k : Nat) (acc a b : Byte) : gfLoop k (xtime acc) (xtime a) b = xtime (gfLoop k acc a b) := by
  induction k generalizing acc a b with
  | zero => rfl
  | succ k ih =>
    simp only [gfLoop]
    split
    · rw [← xtime_xor, ih]
    · rw [ih]

theorem gfMultiply_xor_left (a a' b : Byte) : gfMultiply (a ^^^ a') b = gfMultiply a b ^^^ gfMultiply a' b :=
  gfLoop_xor 8 0 0 a a' b

theorem gfMultiply_xtime_left (a b : Byte) : gfMultiply (xtime a) b = xtime (gfMultiply a b) :=
  gfLoop_xtime 8 0 a b

/-- What doubling and exclusive or keep, the loop keeps. -/
theorem gfLoop_induction {P : Byte → Prop} (hxtime : ∀ a, P a → P (xtime a)) (hxor : ∀ a b, P a → P b → P (a ^^^ b))
    (k : Nat) {acc a : Byte} (b : Byte) (hacc : P acc) (ha : P a) : P (gfLoop k acc a b) := by
  induction k generalizing acc a b with
  | zero => exact hacc
  | succ k ih =>
    simp only [gfLoop]
    split
    · exact ih _ (hxor _ _ hacc ha) (hxtime _ ha)
    · exact ih _ hacc (hxtime _ ha)

/-- Every byte is built from 0 and 1 by doubling and exclusive or: the loop builds it as 1 times itself. -/
theorem byte_induction {P : Byte → Prop} (hzero : P 0#8) (hone : P 1#8) (hxtime : ∀ a, P a → P (xtime a))
    (hxor : ∀ a b, P a → P b → P (a ^^^ b)) (a : Byte) : P a := by
  rw [← gfMultiply_one_left a]
  exact gfLoop_induction hxtime hxor 8 a hzero hone

theorem gfMultiply_xor_right (a b c : Byte) : gfMultiply a (b ^^^ c) = gfMultiply a b ^^^ gfMultiply a c := by
  induction a using byte_induction with
  | hzero => simp
  | hone => simp
  | hxtime a ih => simp only [gfMultiply_xtime_left, ih, xtime_xor]
  | hxor a a' ih ih' =>
    simp only [gfMultiply_xor_left, ih, ih']
    ac_rfl

theorem gfMultiply_assoc (a b c : Byte) : gfMultiply a (gfMultiply b c) = gfMultiply (gfMultiply a b) c := by
  induction a using byte_induction with
  | hzero => simp
  | hone => simp
  | hxtime a ih => simp only [gfMultiply_xtime_left, ih]
  | hxor a a' ih ih' => simp only [gfMultiply_xor_left, ih, ih']

/-! ## The matrices of R160 and R162 -/

/-- The entry at row `r`, column `k` of the product of the matrices with rows 0 `p` and `q`. -/
def mixProduct (p q : Vector Byte 4) (r k : Fin 4) : Byte :=
  gfMultiply (mixEntry p r 0) (mixEntry q 0 k) ^^^ gfMultiply (mixEntry p r 1) (mixEntry q 1 k) ^^^
    gfMultiply (mixEntry p r 2) (mixEntry q 2 k) ^^^ gfMultiply (mixEntry p r 3) (mixEntry q 3 k)

/-- Two mixings in a row are one, by the product of their matrices. -/
theorem byteAt_mixWith_mixWith (p q : Vector Byte 4) (s : Block) (r c : Fin 4) :
    byteAt (mixWith p (mixWith q s)) r c =
      gfMultiply (mixProduct p q r 0) (byteAt s 0 c) ^^^ gfMultiply (mixProduct p q r 1) (byteAt s 1 c) ^^^
        gfMultiply (mixProduct p q r 2) (byteAt s 2 c) ^^^ gfMultiply (mixProduct p q r 3) (byteAt s 3 c) := by
  simp only [byteAt_mixWith, mixProduct, gfMultiply_xor_left, gfMultiply_xor_right, gfMultiply_assoc]
  ac_rfl

/-- Mixings whose matrices have the identity as product undo each other. -/
theorem mixWith_mixWith_of_identity {p q : Vector Byte 4} (h : ∀ r k, mixProduct p q r k = if k = r then 1#8 else 0#8)
    (s : Block) : mixWith p (mixWith q s) = s := by
  refine block_ext fun r c => ?_
  rw [byteAt_mixWith_mixWith]
  simp only [h]
  fin_cases r <;> simp

/-- A matrix whose rows each sum to 1 keeps a column of four equal bytes. -/
theorem byteAt_mixWith_of_equal {row0 : Vector Byte 4}
    (hsum : ∀ r, mixEntry row0 r 0 ^^^ mixEntry row0 r 1 ^^^ mixEntry row0 r 2 ^^^ mixEntry row0 r 3 = 1#8)
    {s : Block} {c : Fin 4} {x : Byte} (h : ∀ r, byteAt s r c = x) (r : Fin 4) : byteAt (mixWith row0 s) r c = x := by
  simp only [byteAt_mixWith, h, ← gfMultiply_xor_left, hsum, gfMultiply_one_left]

/-- Mixing is linear (R161). -/
theorem mixWith_xor (row0 : Vector Byte 4) {s t u : Block} (h : ∀ i : Fin 16, u[i] = s[i] ^^^ t[i]) (i : Fin 16) :
    (mixWith row0 u)[i] = (mixWith row0 s)[i] ^^^ (mixWith row0 t)[i] := by
  have hbyte (r c : Fin 4) : byteAt u r c = byteAt s r c ^^^ byteAt t r c := h ⟨r.val + 4 * c.val, by omega⟩
  simp only [getElem_eq_byteAt _ i, byteAt_mixWith, hbyte, gfMultiply_xor_right]
  ac_rfl

/-- IM is the inverse of M (R164). -/
@[simp] theorem inverseMixColumns_mixColumns (s : Block) : inverseMixColumns (mixColumns s) = s :=
  mixWith_mixWith_of_identity (by decide) s

/-- M is the inverse of IM (R164). -/
@[simp] theorem mixColumns_inverseMixColumns (s : Block) : mixColumns (inverseMixColumns s) = s :=
  mixWith_mixWith_of_identity (by decide) s

/-- The four bytes of column c, at their flat indices (R21). -/
theorem getElem_column (s : Block) (c : Fin 4) :
    s[4 * c.val] = byteAt s 0 c ∧ s[4 * c.val + 1] = byteAt s 1 c ∧ s[4 * c.val + 2] = byteAt s 2 c ∧
      s[4 * c.val + 3] = byteAt s 3 c := by
  simp [byteAt, Nat.add_comm]

/-- The four outputs of a column under M (R160). -/
theorem mixColumns_column (s : Block) (c : Fin 4) :
    (mixColumns s)[4 * c.val] =
      gfMultiply 2 s[4 * c.val] ^^^ gfMultiply 3 s[4 * c.val + 1] ^^^ s[4 * c.val + 2] ^^^ s[4 * c.val + 3] ∧
    (mixColumns s)[4 * c.val + 1] =
      s[4 * c.val] ^^^ gfMultiply 2 s[4 * c.val + 1] ^^^ gfMultiply 3 s[4 * c.val + 2] ^^^ s[4 * c.val + 3] ∧
    (mixColumns s)[4 * c.val + 2] =
      s[4 * c.val] ^^^ s[4 * c.val + 1] ^^^ gfMultiply 2 s[4 * c.val + 2] ^^^ gfMultiply 3 s[4 * c.val + 3] ∧
    (mixColumns s)[4 * c.val + 3] =
      gfMultiply 3 s[4 * c.val] ^^^ s[4 * c.val + 1] ^^^ s[4 * c.val + 2] ^^^ gfMultiply 2 s[4 * c.val + 3] := by
  simp [getElem_column, mixColumns, byteAt_mixWith, mixEntry_mixRow]

/-- The four outputs of a column under IM (R162). -/
theorem inverseMixColumns_column (s : Block) (c : Fin 4) :
    (inverseMixColumns s)[4 * c.val] =
      gfMultiply 14 s[4 * c.val] ^^^ gfMultiply 11 s[4 * c.val + 1] ^^^ gfMultiply 13 s[4 * c.val + 2] ^^^
        gfMultiply 9 s[4 * c.val + 3] ∧
    (inverseMixColumns s)[4 * c.val + 1] =
      gfMultiply 9 s[4 * c.val] ^^^ gfMultiply 14 s[4 * c.val + 1] ^^^ gfMultiply 11 s[4 * c.val + 2] ^^^
        gfMultiply 13 s[4 * c.val + 3] ∧
    (inverseMixColumns s)[4 * c.val + 2] =
      gfMultiply 13 s[4 * c.val] ^^^ gfMultiply 9 s[4 * c.val + 1] ^^^ gfMultiply 14 s[4 * c.val + 2] ^^^
        gfMultiply 11 s[4 * c.val + 3] ∧
    (inverseMixColumns s)[4 * c.val + 3] =
      gfMultiply 11 s[4 * c.val] ^^^ gfMultiply 13 s[4 * c.val + 1] ^^^ gfMultiply 9 s[4 * c.val + 2] ^^^
        gfMultiply 14 s[4 * c.val + 3] := by
  simp [getElem_column, inverseMixColumns, byteAt_mixWith, mixEntry_inverseMixRow]

/-! ## The other transforms, byte by byte -/

@[simp] theorem byteAt_addRoundKey (s : Block) (k : Vector Word 4) (r c : Fin 4) :
    byteAt (addRoundKey s k) r c = byteAt s r c ^^^ (k[c])[r] :=
  byteAt_ofMatrix _ r c

@[simp] theorem byteAt_shiftRows (s : Block) (r c : Fin 4) : byteAt (shiftRows s) r c = byteAt s r (c + r) :=
  byteAt_ofMatrix _ r c

@[simp] theorem byteAt_inverseShiftRows (s : Block) (r c : Fin 4) :
    byteAt (inverseShiftRows s) r c = byteAt s r (c - r) :=
  byteAt_ofMatrix _ r c

theorem substituteBytes_getElem (s : Block) (i : Fin 16) : (substituteBytes s)[i] = sbox s[i] := by
  simp [substituteBytes]

theorem inverseSubstituteBytes_getElem (s : Block) (i : Fin 16) : (inverseSubstituteBytes s)[i] = isbox s[i] := by
  simp [inverseSubstituteBytes]

@[simp] theorem byteAt_substituteBytes (s : Block) (r c : Fin 4) : byteAt (substituteBytes s) r c = sbox (byteAt s r c) :=
  substituteBytes_getElem s ⟨r.val + 4 * c.val, by omega⟩

@[simp] theorem byteAt_inverseSubstituteBytes (s : Block) (r c : Fin 4) :
    byteAt (inverseSubstituteBytes s) r c = isbox (byteAt s r c) :=
  inverseSubstituteBytes_getElem s ⟨r.val + 4 * c.val, by omega⟩

/-- Adding a byte twice restores the one it was added to (R151). -/
@[simp] theorem addRoundKey_addRoundKey_self (s : Block) (k : Vector Word 4) : addRoundKey (addRoundKey s k) k = s :=
  block_ext fun r c => by simp

theorem addRoundKey_comm (s : Block) (j k : Vector Word 4) :
    addRoundKey (addRoundKey s j) k = addRoundKey (addRoundKey s k) j :=
  block_ext fun r c => by simp only [byteAt_addRoundKey]; ac_rfl

@[simp] theorem inverseSubstituteBytes_substituteBytes (s : Block) : inverseSubstituteBytes (substituteBytes s) = s :=
  block_ext fun r c => by simp

@[simp] theorem substituteBytes_inverseSubstituteBytes (s : Block) : substituteBytes (inverseSubstituteBytes s) = s :=
  block_ext fun r c => by simp

/-- Row r turns back by as many places as it turned. -/
@[simp] theorem inverseShiftRows_shiftRows (s : Block) : inverseShiftRows (shiftRows s) = s :=
  block_ext fun r c => by simp

@[simp] theorem shiftRows_inverseShiftRows (s : Block) : shiftRows (inverseShiftRows s) = s :=
  block_ext fun r c => by simp

/-- One acts on values alone, the other on positions alone (R164). -/
theorem substituteBytes_shiftRows (s : Block) : substituteBytes (shiftRows s) = shiftRows (substituteBytes s) :=
  block_ext fun r c => by simp

/-- The flat form of R156. -/
theorem shiftRows_eq (s : Block) :
    shiftRows s =
      #v[s[0], s[5], s[10], s[15], s[4], s[9], s[14], s[3], s[8], s[13], s[2], s[7], s[12], s[1], s[6], s[11]] :=
  rfl

/-- The flat form of R158. -/
theorem inverseShiftRows_eq (s : Block) :
    inverseShiftRows s =
      #v[s[0], s[13], s[10], s[7], s[4], s[1], s[14], s[11], s[8], s[5], s[2], s[15], s[12], s[9], s[6], s[3]] :=
  rfl

/-! ## The commands -/

/-- Command `i` puts `f` of S in S when the core is idle, and is refused when it is paused. -/
structure Transforms (i : Instr) (f : Block → Block) : Prop where
  idle : ∀ s : State, s.PAUSED = false → exec i s = .next { s with S := f s.S, ERR := .noError }
  paused : ∀ s : State, s.PAUSED = true → exec i s = .next { s with ERR := .illegalCommand }

/-- A command that checks only that the core is idle and has `f` as its effect on S. -/
theorem Transforms.of_effect {i : Instr} {f : Block → Block} (hchecks : ∀ s, checksOf i s = [checkIdle s])
    (heffect : ∀ s, effectOf i s = s.setS (f s.S)) : Transforms i f where
  idle s h := by rw [exec_accepts_of_idle (hchecks s) h, heffect, State.setS, State.setERR]
  paused s h := by rw [exec_refuses_of_paused (hchecks s) h, raiseError_eq]

theorem subb_transforms : Transforms .subb substituteBytes := .of_effect (fun _ => rfl) fun _ => rfl

theorem isubb_transforms : Transforms .isubb inverseSubstituteBytes := .of_effect (fun _ => rfl) fun _ => rfl

theorem shr_transforms : Transforms .shr shiftRows := .of_effect (fun _ => rfl) fun _ => rfl

theorem ishr_transforms : Transforms .ishr inverseShiftRows := .of_effect (fun _ => rfl) fun _ => rfl

theorem mixc_transforms : Transforms .mixc mixColumns := .of_effect (fun _ => rfl) fun _ => rfl

theorem imixc_transforms : Transforms .imixc inverseMixColumns := .of_effect (fun _ => rfl) fun _ => rfl

/-- S after a transform command that was accepted. -/
theorem Transforms.S_eq {i : Instr} {f : Block → Block} (hi : Transforms i f) {s t : State} (hidle : s.PAUSED = false)
    (h : exec i s = .next t) : t.S = f s.S := by
  obtain rfl := Host.Outcome.next.inj ((hi.idle s hidle).symm.trans h)
  rfl

/-- A command whose transform undoes that of the command before it restores the state, ERR apart. -/
theorem Transforms.undo {i j : Instr} {f g : Block → Block} (hi : Transforms i f) (hj : Transforms j g)
    (hgf : ∀ b, g (f b) = b) (s t : State) (hidle : s.PAUSED = false) (h : exec i s = .next t) :
    exec j t = .next { s with ERR := .noError } := by
  obtain rfl := Host.Outcome.next.inj ((hi.idle s hidle).symm.trans h)
  simpa only [hgf] using hj.idle { s with S := f s.S, ERR := .noError } hidle

/-- ARK with a legal index on an idle core (R151). -/
theorem exec_ark_of_idle {s : State} (k : Fin 11) (h : s.PAUSED = false) :
    exec (.ark (BitVec.ofNat 8 k.val)) s =
      .next { s with S := addRoundKey s.S (roundKeyWords s.W k), ERR := .noError } := by
  have hk : (BitVec.ofNat 8 k.val).toNat = k.val := by simp only [BitVec.toNat_ofNat]; omega
  have hle : k.val ≤ 10 := by omega
  rw [exec_accepts_of_idle (by simp only [checksOf, hk, if_pos hle]) h]
  simp only [effectOf, hk, dif_pos hle]
  rfl

/-- One ARK after another (R151). -/
theorem exec_ark_of_exec_ark {s t : State} (j k : Fin 11) (hidle : s.PAUSED = false)
    (h : exec (.ark (BitVec.ofNat 8 j.val)) s = .next t) :
    exec (.ark (BitVec.ofNat 8 k.val)) t =
      .next { s with S := addRoundKey (addRoundKey s.S (roundKeyWords s.W j)) (roundKeyWords s.W k), ERR := .noError } := by
  obtain rfl := Host.Outcome.next.inj ((exec_ark_of_idle j hidle).symm.trans h)
  exact exec_ark_of_idle k hidle

/-- ARK is refused when the core is paused or the index is above 10 (R151). -/
theorem exec_ark_refused {s : State} {a : Byte} (h : s.PAUSED = true ∨ 10 < a.toNat) :
    exec (.ark a) s = .next { s with ERR := .illegalCommand } := by
  refine exec_refuses ?_ (by decide)
  obtain h | h := h
  · simp only [checksOf]
    split <;> rw [firstError_checkIdle, if_pos h]
  · simp [checksOf, Nat.not_le.2 h, firstError_checkIdle]

end Sys2Proof.Machine

open Sys2Proof Sys2Proof.Machine

/-- Settles O34: MIXC by `mixc_transforms`; the outputs by `mixColumns_column`; the rows of M each sum to 1; linearity by
`mixWith_xor`. -/
theorem mixcMultipliesColumns : Obligations.MixcMultipliesColumns := by
  refine ⟨rfl, fun s hidle => ⟨_, mixc_transforms.idle s hidle, mixColumns_column s.S⟩, fun s t c x hidle h hcol => ?_,
    fun s t u s' t' u' hs ht hu hxor hs' ht' hu' => ?_, mixc_transforms.paused⟩
  · rw [mixc_transforms.S_eq hidle h]
    exact byteAt_mixWith_of_equal (by decide) hcol
  · rw [mixc_transforms.S_eq hs hs', mixc_transforms.S_eq ht ht', mixc_transforms.S_eq hu hu']
    exact mixWith_xor mixRow hxor

/-- Settles O35: IMIXC by `imixc_transforms`; the outputs by `inverseMixColumns_column`; the rows of IM each sum to 1; the
products of M and IM are the identity. -/
theorem imixcMultipliesColumns : Obligations.ImixcMultipliesColumns := by
  refine ⟨rfl, fun s hidle => ⟨_, imixc_transforms.idle s hidle, inverseMixColumns_column s.S⟩,
    fun s t c x hidle h hcol => ?_,
    mixc_transforms.undo imixc_transforms inverseMixColumns_mixColumns,
    imixc_transforms.undo mixc_transforms mixColumns_inverseMixColumns, imixc_transforms.paused⟩
  rw [imixc_transforms.S_eq hidle h]
  exact byteAt_mixWith_of_equal (by decide) hcol

/-- Settles O47: each pair by its lemma above. -/
theorem transformInversePairs : Obligations.TransformInversePairs :=
  ⟨addRoundKey_addRoundKey_self,
    fun s => ⟨inverseSubstituteBytes_substituteBytes s, substituteBytes_inverseSubstituteBytes s⟩,
    fun s => ⟨inverseShiftRows_shiftRows s, shiftRows_inverseShiftRows s⟩,
    fun s => ⟨inverseMixColumns_mixColumns s, mixColumns_inverseMixColumns s⟩, substituteBytes_shiftRows⟩

/-- Settles O31: ARK by `exec_ark_of_idle`, its bytes by `addRoundKey_roundKeyWords_getElem`; a second ARK adds its
round key to the first one's block (`exec_ark_of_exec_ark`). -/
theorem arkAddsRoundKey : Obligations.ArkAddsRoundKey := by
  refine ⟨by decide, fun s k hidle => ?_, fun s t u j k hidle ht hu => ?_, fun s a ha => exec_ark_refused (.inr ha),
    fun s a hpaused => exec_ark_refused (.inl hpaused)⟩
  · have hark := exec_ark_of_idle k hidle
    refine ⟨_, hark, addRoundKey_roundKeyWords_getElem s.S s.W k, ?_⟩
    rw [exec_ark_of_exec_ark k k hidle hark, addRoundKey_addRoundKey_self]
  · refine ⟨_, exec_ark_of_exec_ark j k hidle ht, ?_⟩
    rw [exec_ark_of_exec_ark k j hidle hu, addRoundKey_comm]

/-- Settles O32: SUBB and ISUBB by `subb_transforms` and `isubb_transforms`; the table has no fixed point, checked entry by
entry. -/
theorem subBytesCommands : Obligations.SubBytesCommands :=
  ⟨rfl, rfl, fun s hidle => ⟨_, subb_transforms.idle s hidle, substituteBytes_getElem s.S⟩,
    fun s hidle => ⟨_, isubb_transforms.idle s hidle, inverseSubstituteBytes_getElem s.S⟩,
    ⟨by decide, by decide, by decide⟩,
    subb_transforms.undo isubb_transforms inverseSubstituteBytes_substituteBytes,
    isubb_transforms.undo subb_transforms substituteBytes_inverseSubstituteBytes,
    fun s hp => ⟨subb_transforms.paused s hp, isubb_transforms.paused s hp⟩⟩

/-- Settles O33: SHR and ISHR by `shr_transforms` and `ishr_transforms`, in the flat forms `shiftRows_eq` and
`inverseShiftRows_eq`. -/
theorem shiftRowsCommands : Obligations.ShiftRowsCommands := by
  refine ⟨rfl, rfl, fun s hidle => ?_, fun s hidle => ?_,
    fun s hp => ⟨shr_transforms.paused s hp, ishr_transforms.paused s hp⟩⟩
  · rw [shr_transforms.idle s hidle, shiftRows_eq]
  · rw [ishr_transforms.idle s hidle, inverseShiftRows_eq]

end

section
/-! PROOFS of the block driver family (spec/44_block_driver.md): LOAD, EMIT and CLR; the independence of control from data
(R194); the cipher round trip (R196); and a cipher operation from its start to its end (R189, R190, R195), by the invariant
`Running` that every entry of a sequence keeps. -/

namespace Sys2Proof.Machine

/-! ## What an accepted command changes -/

/-- A command that changes a register other than ERR was accepted. -/
theorem exec_accepted_of_changed {α : Type} (f : State → α) (hf : ∀ s e, f (State.setERR e s) = f s) {i : Instr}
    {s t : State} (h : exec i s = .next t) (hne : f t ≠ f s) :
    firstError (checksOf i s) = .noError ∧ t = (effectOf i s).setERR .noError := by
  obtain ⟨hc, he⟩ | ⟨-, he⟩ := exec_cases i s
  · exact ⟨hc, Host.Outcome.next.inj (h.symm.trans he)⟩
  · obtain rfl := Host.Outcome.next.inj (he.symm.trans h)
    exact absurd (hf s _) hne

/-- A command word that changes a register other than ERR selects a command, which changes it. -/
theorem issueWord_selects_of_changed {α : Type} (f : State → α) (hf : ∀ s e, f (State.setERR e s) = f s) {w : CmdWord}
    {s t : State} (h : issueWord w s = .next t) (hne : f t ≠ f s) : ∃ i, decode w = .ok i ∧ exec i s = .next t := by
  obtain ⟨i, hd, hi⟩ | ⟨e, -, he⟩ := issueWord_cases w s
  · exact ⟨i, hd, hi.symm.trans h⟩
  · obtain rfl := Host.Outcome.next.inj (he.symm.trans h)
    exact absurd (hf s _) hne

/-- DOUT after a command's effect (R183): EMIT puts S there, and the sequences that hold EMIT write it. -/
theorem effectOf_DOUT (i : Instr) (s : State) :
    (effectOf i s).DOUT = s.DOUT ∨ (i = .emit ∧ (effectOf i s).DOUT = s.S) ∨ i ∈ ([.enc, .dec, .cont] : List Instr) := by
  cases i with
  | emit => exact .inr (.inl ⟨rfl, rfl⟩)
  | enc | dec | cont => simp
  | ark a => by_cases h : a.toNat ≤ 10 <;> simp [effectOf, h]
  | _ => simp [effectOf]

/-- A command that changes DOUT is EMIT or runs a sequence (R183). -/
theorem exec_DOUT_changed {i : Instr} {s t : State} (h : exec i s = .next t) (hne : t.DOUT ≠ s.DOUT) :
    (i = .emit ∧ t.DOUT = s.S) ∨ i ∈ ([.enc, .dec, .cont] : List Instr) := by
  obtain ⟨-, rfl⟩ := exec_accepted_of_changed State.DOUT (fun _ _ => rfl) h hne
  exact (effectOf_DOUT i s).resolve_left hne

@[simp] theorem writeRegister_DOUT (a : Addr) (v : Byte) (s : State) : (writeRegister a v s).DOUT = s.DOUT := by
  rw [writeRegister_eq]

/-! ## ENC and DEC as one command with a direction -/

/-- The command that starts the operation in direction `d`. -/
def startOf : Direction → Instr
  | .encryption => .enc
  | .decryption => .dec

theorem decode_startOp (d : Direction) (x y : Byte) : decode (cmdWord (startOp d) x y) = .ok (startOf d) := by
  cases d <;> simp [startOp, startOf, decode]

/-- The checks of ENC and DEC (R189, R190, R223). -/
theorem checksOf_startOf (d : Direction) (s : State) :
    checksOf (startOf d) s = [checkIdle s, checkBlockLength s, checkKeyLength s] := by
  cases d <;> rfl

theorem effectOf_startOf (d : Direction) (s : State) : effectOf (startOf d) s = runSequence (s.beginSequence d) := by
  cases d <;> rfl

/-- A wrong length is the error of an idle core's ENC or DEC (R221). -/
theorem firstError_startOf_of_wrongLength (d : Direction) {s : State} (hidle : s.PAUSED = false)
    (hlen : s.KLEN ≠ 16 ∨ s.DLEN ≠ 16) : firstError (checksOf (startOf d) s) = .invalidLength := by
  rw [checksOf_startOf, checkIdle_of_idle hidle, firstError_noError, firstError_checkBlockLength,
    firstError_checkKeyLength]
  by_cases hblock : s.DLEN = 16
  · rw [if_neg (not_not_intro hblock), if_pos (hlen.resolve_right (not_not_intro hblock))]
  · rw [if_pos hblock]

/-! ## A wrong length -/

/-- With nothing paused ENC and DEC are refused for a wrong length, and CONT always is (R223). -/
theorem sequence_refused_of_wrongLength {i : Instr} (hi : i ∈ ([.enc, .dec, .cont] : List Instr)) {s : State}
    (hidle : s.PAUSED = false) (hlen : s.KLEN ≠ 16 ∨ s.DLEN ≠ 16) : firstError (checksOf i s) ≠ .noError := by
  have hstart (d : Direction) : firstError (checksOf (startOf d) s) ≠ .noError := by
    rw [firstError_startOf_of_wrongLength d hidle hlen]
    decide
  fin_cases hi
  · exact hstart .encryption
  · exact hstart .decryption
  · simp [checksOf, checkPaused_of_idle hidle]

/-- With nothing paused and a wrong length, a command other than CLR keeps both counters. -/
theorem exec_counts_of_wrongLength {i : Instr} {s t : State} (h : exec i s = .next t) (hidle : s.PAUSED = false)
    (hlen : s.KLEN ≠ 16 ∨ s.DLEN ≠ 16) : (t.KLEN = s.KLEN ∧ t.DLEN = s.DLEN) ∨ i = .clr := by
  by_cases hne : (t.KLEN, t.DLEN) = (s.KLEN, s.DLEN)
  · exact .inl (Prod.mk.inj hne)
  · obtain ⟨hacc, rfl⟩ := exec_accepted_of_changed (fun s => (s.KLEN, s.DLEN)) (fun _ _ => rfl) h hne
    obtain hkeep | hmem := effectOf_counts i s
    · exact .inl hkeep
    · right
      by_contra hclr
      exact sequence_refused_of_wrongLength (by simp_all) hidle hlen hacc

/-- With nothing paused and a wrong length, a step that is neither reset nor CLR keeps each counter or counts it up
(R192). -/
theorem step_counts_of_wrongLength {s t : State} (h : step s = .next t) (hidle : s.PAUSED = false)
    (hlen : s.KLEN ≠ 16 ∨ s.DLEN ≠ 16) :
    (∃ rest, s.pending = .reset :: rest ∨ s.pending = .write 0x000 0x31 :: rest) ∨
    ((t.KLEN = s.KLEN ∨ t.KLEN = countUp s.KLEN) ∧ (t.DLEN = s.DLEN ∨ t.DLEN = countUp s.DLEN)) := by
  by_cases hne : (t.KLEN, t.DLEN) = (s.KLEN, s.DLEN)
  · exact .inr ⟨.inl (Prod.mk.inj hne).1, .inl (Prod.mk.inj hne).2⟩
  · obtain ⟨rest, hp | ⟨v, hp, hw⟩ | ⟨a, v, -, -, rfl⟩⟩ :=
      step_changes_register (fun s => (s.KLEN, s.DLEN)) (fun _ => rfl) h hne
    · exact .inl ⟨rest, .inl hp⟩
    · obtain ⟨i, hd, hi⟩ := issueWord_selects_of_changed (fun s => (s.KLEN, s.DLEN)) (fun _ _ => rfl) hw hne
      obtain ⟨hk, hd'⟩ | rfl := exec_counts_of_wrongLength hi hidle hlen
      · exact .inr ⟨.inl hk, .inl hd'⟩
      · have hop : v = 0x31 := by simpa [encode] using (decode_ok_fields hd).1
        exact .inl ⟨rest, .inr (hop ▸ hp)⟩
    · exact .inr ⟨writeRegister_KLEN a v _, writeRegister_DLEN a v _⟩

/-- Keeping a counter or counting it up does not bring it to 0. -/
theorem ne_zero_of_keeps_or_counts {n m : BitVec 5} (h : m = n ∨ m = countUp n) (hn : n ≠ 0) : m ≠ 0 := by
  obtain rfl | rfl := h
  · exact hn
  · exact countUp_ne_zero n

/-- CLR is accepted in every state (R192). -/
theorem exec_clr (s : State) : exec .clr s = .next (afterCipher s.DOUT s) := rfl

/-! ## Control does not look at data (R194) -/

theorem controlOf_eq_iff (s t : State) :
    controlOf s = controlOf t ↔
      s.KLEN = t.KLEN ∧ s.DLEN = t.DLEN ∧ s.PAUSED = t.PAUSED ∧ s.TRACE = t.TRACE ∧ s.STEP = t.STEP ∧ s.DIR = t.DIR := by
  simp only [controlOf, Control.mk.injEq]

@[simp] theorem controlOf_setS (b : Block) (s : State) : controlOf (s.setS b) = controlOf s := rfl

@[simp] theorem controlOf_setW (w : Schedule) (s : State) : controlOf (s.setW w) = controlOf s := rfl

@[simp] theorem controlOf_setDOUT (b : Block) (s : State) : controlOf (s.setDOUT b) = controlOf s := rfl

@[simp] theorem controlOf_setR (v : Byte) (s : State) : controlOf (s.setR v) = controlOf s := rfl

/-- The checks of R223 look at the control part alone. -/
theorem checksOf_congr {s t : State} (h : controlOf s = controlOf t) (i : Instr) : checksOf i s = checksOf i t := by
  obtain ⟨hk, hd, hp, -, -, -⟩ := (controlOf_eq_iff s t).1 h
  have hidle : checkIdle s = checkIdle t := by rw [checkIdle, checkIdle, hp]
  have hpaused : checkPaused s = checkPaused t := by rw [checkPaused, checkPaused, hp]
  have hblock : checkBlockLength s = checkBlockLength t := by rw [checkBlockLength, checkBlockLength, hd]
  have hkey : checkKeyLength s = checkKeyLength t := by rw [checkKeyLength, checkKeyLength, hk]
  cases i <;> simp only [checksOf, hidle, hpaused, hblock, hkey]

theorem currentEntry_congr {s t : State} (h : controlOf s = controlOf t) : currentEntry s = currentEntry t := by
  obtain ⟨-, -, -, -, hstep, hdir⟩ := (controlOf_eq_iff s t).1 h
  rw [currentEntry, currentEntry, hstep, hdir]

theorem controlOf_clear_congr {s t : State} (h : controlOf s = controlOf t) : controlOf s.clear = controlOf t.clear := by
  obtain ⟨-, -, -, htrace, -, -⟩ := (controlOf_eq_iff s t).1 h
  simp [controlOf_eq_iff, htrace]

theorem controlOf_setSTEP_congr {s t : State} (h : controlOf s = controlOf t) (n : Fin 44) :
    controlOf (s.setSTEP n) = controlOf (t.setSTEP n) := by
  obtain ⟨hk, hd, hp, ht, -, hdir⟩ := (controlOf_eq_iff s t).1 h
  simp [controlOf_eq_iff, hk, hd, hp, ht, hdir]

/-- An entry writes data registers, and CLR clears the control part but TRACE. -/
theorem controlOf_performEntry_congr {s t : State} (h : controlOf s = controlOf t) (e : Entry) :
    controlOf (performEntry e s) = controlOf (performEntry e t) := by
  cases e with
  | clr => exact controlOf_clear_congr h
  | _ => simpa [performEntry] using h

/-- A run of the sequencer takes the same course whatever the data. -/
theorem controlOf_runLoop_congr (fuel : Nat) {s t : State} (h : controlOf s = controlOf t) :
    controlOf (runLoop fuel s) = controlOf (runLoop fuel t) := by
  induction fuel generalizing s t with
  | zero => exact h
  | succ k ih =>
    obtain ⟨-, -, -, -, hstep, -⟩ := (controlOf_eq_iff s t).1 h
    have hentry : controlOf (performEntry (currentEntry s) s) = controlOf (performEntry (currentEntry t) t) := by
      rw [currentEntry_congr h]
      exact controlOf_performEntry_congr h _
    have htrace : (performEntry (currentEntry s) s).TRACE = (performEntry (currentEntry t) t).TRACE :=
      congrArg Control.TRACE hentry
    simp only [runLoop, hstep, htrace]
    split
    · exact hentry
    · split
      · exact controlOf_setSTEP_congr hentry _
      · exact ih (controlOf_setSTEP_congr hentry _)

/-- The control part after a command's effect depends on the control part before it. -/
theorem controlOf_effectOf_congr {s t : State} (h : controlOf s = controlOf t) (i : Instr) :
    controlOf (effectOf i s) = controlOf (effectOf i t) := by
  have hbegin (d : Direction) : controlOf (s.beginSequence d) = controlOf (t.beginSequence d) := by
    obtain ⟨hk, hd, -, ht, -, -⟩ := (controlOf_eq_iff s t).1 h
    simp [controlOf_eq_iff, hk, hd, ht]
  cases i with
  | enc | dec => exact controlOf_runLoop_congr 44 (hbegin _)
  | cont => exact controlOf_runLoop_congr 44 h
  | clr => exact controlOf_clear_congr h
  | ark a => by_cases ha : a.toNat ≤ 10 <;> simpa [effectOf, ha] using h
  | _ => simpa [effectOf] using h

/-- Two outcomes a host that sees no data cannot tell apart: next states with the same control part and the same ERR. -/
def SameControl (o o' : Host.Outcome State Fault Refusal) : Prop :=
  ∃ s t, o = .next s ∧ o' = .next t ∧ controlOf s = controlOf t ∧ s.ERR = t.ERR

theorem exec_sameControl {s t : State} (h : controlOf s = controlOf t) (i : Instr) :
    SameControl (exec i s) (exec i t) := by
  have hchecks := checksOf_congr h i
  obtain ⟨hacc, hs⟩ | ⟨hrej, hs⟩ := exec_cases i s
  · exact ⟨_, _, hs, exec_accepts (hchecks ▸ hacc), controlOf_effectOf_congr h i, rfl⟩
  · exact ⟨_, _, hs, exec_refuses (hchecks ▸ rfl) hrej, h, rfl⟩

theorem issueWord_sameControl {s t : State} (h : controlOf s = controlOf t) (w : CmdWord) :
    SameControl (issueWord w s) (issueWord w t) := by
  cases hw : decode w with
  | ok i => simpa only [issueWord, hw] using exec_sameControl h i
  | error e =>
    rw [issueWord_of_decode_error hw, issueWord_of_decode_error hw]
    exact ⟨_, _, rfl, rfl, h, rfl⟩

/-! ## Decryption undoes encryption (R196) -/

/-- The undoing steps in the reverse order undo a sequence of steps. -/
theorem foldl_reverse_undo {α β : Type} {f g : α → β → α} (h : ∀ a b, g (f a b) b = a) (l : List β) (a : α) :
    l.reverse.foldl g (l.foldl f a) = a := by
  induction l generalizing a with
  | nil => rfl
  | cons b l ih => simp [ih, h]

@[simp] theorem addKeyOf_addKeyOf_self (w : Schedule) (r : Fin 11) (s : Block) : addKeyOf w r (addKeyOf w r s) = s :=
  addRoundKey_addRoundKey_self s _

theorem decryptRound_encryptRound (w : Schedule) (s : Block) (r : Fin 11) :
    decryptRound w (encryptRound w s r) r = s := by
  simp [decryptRound, encryptRound]

theorem encryptRound_decryptRound (w : Schedule) (s : Block) (r : Fin 11) :
    encryptRound w (decryptRound w s r) r = s := by
  simp [decryptRound, encryptRound]

theorem decryptBlock_encryptBlock (p k : Block) : decryptBlock (encryptBlock p k) k = p := by
  have hrounds := foldl_reverse_undo (decryptRound_encryptRound (expandKey k)) [1, 2, 3, 4, 5, 6, 7, 8, 9]
  simp only [List.reverse_cons, List.reverse_nil, List.nil_append, List.cons_append] at hrounds
  simp [decryptBlock, encryptBlock, hrounds, -List.foldl_cons]

theorem encryptBlock_decryptBlock (c k : Block) : encryptBlock (decryptBlock c k) k = c := by
  have hrounds := foldl_reverse_undo (encryptRound_decryptRound (expandKey k)) [9, 8, 7, 6, 5, 4, 3, 2, 1]
  simp only [List.reverse_cons, List.reverse_nil, List.nil_append, List.cons_append] at hrounds
  simp [decryptBlock, encryptBlock, hrounds, -List.foldl_cons]

/-! ## The State after each entry -/

/-- One more entry of the table is applied to the State. -/
theorem blockAfter_succ (d : Direction) (p k : Block) (n : Fin 44) :
    blockAfter d p k (n.val + 1) = entryOnBlock (expandKey k) p (blockAfter d p k n.val) (entryAt d n) := by
  have hn : n.val < (seqTable d).toList.length := by simp
  rw [blockAfter, ← List.take_append_getElem hn, List.foldl_append]
  rfl

/-- The State before EMIT is the cipher's result (R184, R185). -/
theorem blockAfter_before_emit (d : Direction) (p k : Block) : blockAfter d p k 42 = cipherOf d p k := by
  cases d <;> rfl

theorem entryAt_zero (d : Direction) : entryAt d 0 = .load := by cases d <;> rfl

theorem entryAt_one (d : Direction) : entryAt d 1 = .kexp := by cases d <;> rfl

theorem entryAt_42 (d : Direction) : entryAt d 42 = .emit := by cases d <;> rfl

/-- What an entry other than CLR writes: S, KEXP W, EMIT DOUT. -/
theorem performEntry_eq {e : Entry} (h : e ≠ .clr) (s : State) :
    performEntry e s =
      { s with
        S := entryOnBlock s.W s.DIN s.S e
        W := if e = .kexp then expandKey s.KEY else s.W
        DOUT := if e = .emit then s.S else s.DOUT } := by
  cases e with
  | clr => exact absurd rfl h
  | _ => rfl

/-! ## A running operation -/

/-- `s` is in the middle of the operation in direction `d` on block `p` under key `k`, about to run the entry at STEP: what
the entries before it have computed (R188, R197). Beside what TraceInv says of a paused state it covers the start, STEP 0. -/
structure Running (d : Direction) (p k : Block) (s : State) : Prop where
  paused : s.PAUSED = true
  dir : s.DIR = d
  din : s.DIN = p
  key : s.KEY = k
  block : 1 ≤ s.STEP.val → s.S = blockAfter d p k s.STEP.val
  schedule : 2 ≤ s.STEP.val → s.W = expandKey k
  result : s.STEP.val = 43 → s.DOUT = cipherOf d p k

variable {d : Direction} {p k : Block}

/-- The start of an operation (R189, R190). -/
theorem running_beginSequence (d : Direction) (s : State) : Running d s.DIN s.KEY (s.beginSequence d) where
  paused := rfl
  dir := rfl
  din := rfl
  key := rfl
  block h := absurd h (by simp)
  schedule h := absurd h (by simp)
  result h := absurd h (by simp)

/-- The registers the host can still write, ERR and the host's side of the bus are no part of an operation. -/
theorem Running.bus {s : State} (h : Running d p k s) {a b : Byte} {c : Bool} {e : ErrCode} {l : List HostAction}
    {r : Option Byte} :
    Running d p k { s with ARGA := a, ARGB := b, TRACE := c, ERR := e, pending := l, rdata := r } :=
  ⟨h.paused, h.dir, h.din, h.key, h.block, h.schedule, h.result⟩

/-- `s` after the entry at STEP and the advance of STEP: one pass of the loop of R188. -/
def State.pass (s : State) (h : s.STEP.val + 1 < 44) : State :=
  (performEntry (currentEntry s) s).setSTEP ⟨s.STEP.val + 1, h⟩

/-- A pass before the last one writes S, W, DOUT and STEP. -/
theorem State.pass_eq {s : State} (h : s.STEP.val + 1 < 44) :
    s.pass h =
      { s with
        S := entryOnBlock s.W s.DIN s.S (currentEntry s)
        W := if currentEntry s = .kexp then expandKey s.KEY else s.W
        DOUT := if currentEntry s = .emit then s.S else s.DOUT
        STEP := ⟨s.STEP.val + 1, h⟩ } := by
  have hclr : currentEntry s ≠ .clr := fun he => by
    have hlast : s.STEP = 43 := (entryAt_clr_iff s.DIR s.STEP).1 he
    simp [hlast] at h
  rw [State.pass, performEntry_eq hclr, State.setSTEP]

theorem State.pass_TRACE {s : State} (h : s.STEP.val + 1 < 44) : (s.pass h).TRACE = s.TRACE := by
  rw [State.pass_eq]

/-- Before the last entry the loop of R188 makes a pass and goes on unless TRACE is set. -/
theorem runLoop_succ_eq_pass {s : State} (h : s.STEP.val + 1 < 44) (fuel : Nat) :
    runLoop (fuel + 1) s = if s.TRACE then s.pass h else runLoop fuel (s.pass h) := by
  rw [← State.pass_TRACE h]
  exact runLoop_succ_of_lt h fuel

/-- A traced run before the last entry is one pass (R188). -/
theorem runSequence_of_traced {s : State} (h : s.STEP.val + 1 < 44) (htrace : s.TRACE = true) :
    runSequence s = s.pass h := by
  rw [runSequence, runLoop_succ_eq_pass h, if_pos htrace]

/-- The State after the entry at STEP: LOAD looks at DIN alone, KEXP keeps the block, and the later ones find the schedule
in W. -/
theorem Running.entryOnBlock_eq {s : State} (h : Running d p k s) :
    entryOnBlock s.W s.DIN s.S (currentEntry s) = blockAfter d p k (s.STEP.val + 1) := by
  rw [blockAfter_succ, currentEntry, h.dir, h.din]
  obtain hzero | hone | htwo : s.STEP = 0 ∨ s.STEP = 1 ∨ 2 ≤ s.STEP.val := by omega
  · rw [hzero, entryAt_zero, entryOnBlock, entryOnBlock]
  · rw [h.block (by simp [hone]), hone, entryAt_one, entryOnBlock, entryOnBlock]
  · rw [h.block (by omega), h.schedule htwo]

/-- Every pass keeps the operation running. -/
theorem Running.after_pass {s : State} (h : Running d p k s) (hlt : s.STEP.val + 1 < 44) : Running d p k (s.pass hlt) := by
  have hentry (n : Fin 44) (hn : s.STEP = n) : currentEntry s = entryAt d n := by rw [currentEntry, h.dir, hn]
  rw [State.pass_eq]
  refine ⟨h.paused, h.dir, h.din, h.key, fun _ => h.entryOnBlock_eq, fun htwo => ?_, fun hlast => ?_⟩
  · show (if currentEntry s = .kexp then expandKey s.KEY else s.W) = expandKey k
    split
    · rw [h.key]
    · next hne =>
      have hone : s.STEP ≠ 1 := fun h1 => hne ((hentry 1 h1).trans (entryAt_one d))
      exact h.schedule (by simp at htwo; omega)
  · show (if currentEntry s = .emit then s.S else s.DOUT) = cipherOf d p k
    have hemit : s.STEP = 42 := Fin.ext (by simpa using hlast)
    rw [hentry 42 hemit, entryAt_42, if_pos rfl, h.block (by simp [hemit]), hemit]
    exact blockAfter_before_emit d p k

/-- A run of the sequencer stops with the operation still running, for TRACE or for want of passes, or it ends the
operation as CLR does, with the cipher's result in DOUT. -/
theorem Running.after_runLoop {s : State} (h : Running d p k s) (fuel : Nat) :
    (Running d p k (runLoop fuel s) ∧ (s.TRACE = true ∨ fuel + s.STEP.val < 44)) ∨
    runLoop fuel s = s.clear.setDOUT (cipherOf d p k) := by
  induction fuel generalizing s with
  | zero => exact .inl ⟨h, .inr (by omega)⟩
  | succ fuel ih =>
    by_cases hlt : s.STEP.val + 1 < 44
    · have hstep : (s.pass hlt).STEP.val = s.STEP.val + 1 := rfl
      have htrace := State.pass_TRACE hlt
      have hclear : (s.pass hlt).clear.setDOUT (cipherOf d p k) = s.clear.setDOUT (cipherOf d p k) := by
        rw [State.pass_eq]
        rfl
      rw [runLoop_succ_eq_pass hlt]
      split
      · next ht => exact .inl ⟨h.after_pass hlt, .inl ht⟩
      · next ht =>
        obtain ⟨hr, hor⟩ | hend := ih (h.after_pass hlt)
        · rw [htrace, hstep] at hor
          exact .inl ⟨hr, .inr (by have := hor.resolve_left ht; omega)⟩
        · exact .inr (hend.trans hclear)
    · have hlast : s.STEP = 43 := Fin.ext (by omega : s.STEP.val = 43)
      rw [runLoop_succ_of_last hlast, ← h.result (by simp [hlast])]
      exact .inr rfl

/-- A run leaves the operation running, which takes TRACE, or ends it (R188, R189). -/
theorem Running.after_runSequence {s : State} (h : Running d p k s) :
    (Running d p k (runSequence s) ∧ s.TRACE = true) ∨
    (runSequence s).setERR .noError = afterCipher (cipherOf d p k) s := by
  obtain ⟨hr, hor⟩ | hend := h.after_runLoop 44
  · exact .inl ⟨hr, hor.resolve_right (by omega)⟩
  · right
    rw [runSequence, hend]
    rfl

/-! ## What ENC and DEC do -/

/-- An accepted ENC or DEC runs its sequence. -/
theorem exec_startOf {s : State} (d : Direction) (hidle : s.PAUSED = false) (hkey : s.KLEN = 16) (hblock : s.DLEN = 16) :
    exec (startOf d) s = .next ((runSequence (s.beginSequence d)).setERR .noError) := by
  rw [← effectOf_startOf]
  refine exec_accepts ?_
  rw [checksOf_startOf, checkIdle_of_idle hidle, checkBlockLength_of_right hblock, checkKeyLength_of_right hkey]
  rfl

/-- Untraced, the whole operation is done (R189, R190). -/
theorem exec_startOf_untraced (d : Direction) (s : State) (hidle : s.PAUSED = false) (hkey : s.KLEN = 16)
    (hblock : s.DLEN = 16) (htrace : s.TRACE = false) :
    exec (startOf d) s = .next (afterCipher (cipherOf d s.DIN s.KEY) s) := by
  rw [exec_startOf d hidle hkey hblock]
  obtain ⟨-, ht⟩ | hend := (running_beginSequence d s).after_runSequence
  · exact absurd ht (by simp [htrace])
  · rw [hend]
    rfl

/-- Traced, entry 0 is done (R189, R190). -/
theorem exec_startOf_traced (d : Direction) (s : State) (hidle : s.PAUSED = false) (hkey : s.KLEN = 16)
    (hblock : s.DLEN = 16) (htrace : s.TRACE = true) :
    exec (startOf d) s = .next { s with S := s.DIN, STEP := 1, PAUSED := true, DIR := d, ERR := .noError } := by
  have hload : currentEntry (s.beginSequence d) = .load := entryAt_zero d
  rw [exec_startOf d hidle hkey hblock, runSequence_of_traced (s := s.beginSequence d) (by simp) htrace, State.pass_eq,
    hload]
  rfl

theorem exec_startOf_wrongLength (d : Direction) (s : State) (hidle : s.PAUSED = false)
    (hlen : s.KLEN ≠ 16 ∨ s.DLEN ≠ 16) : exec (startOf d) s = .next { s with ERR := .invalidLength } :=
  exec_refuses (firstError_startOf_of_wrongLength d hidle hlen) (by decide)

theorem exec_startOf_paused (d : Direction) (s : State) (hpaused : s.PAUSED = true) :
    exec (startOf d) s = .next { s with ERR := .illegalCommand } :=
  exec_refuses_of_paused (checksOf_startOf d s) hpaused

/-! ## The host's actions during an operation (R195) -/

theorem pushKey_of_paused {s : State} (h : s.PAUSED = true) (v : Byte) : s.pushKey v = s := if_pos h

theorem pushDin_of_paused {s : State} (h : s.PAUSED = true) (v : Byte) : s.pushDin v = s := if_pos h

/-- While PAUSED a register write reaches ARGA, ARGB and TRACE only (R61, R69, R70). -/
theorem writeRegister_of_paused {s : State} (h : s.PAUSED = true) (a : Addr) (v : Byte) :
    writeRegister a v s =
      { s with
        ARGA := if a = 0x001 then v else s.ARGA
        ARGB := if a = 0x002 then v else s.ARGB
        TRACE := if a = 0x003 then v.getLsbD 0 else s.TRACE } := by
  rw [writeRegister_eq, pushKey_of_paused h, pushDin_of_paused h]
  simp only [ite_self]

/-- While PAUSED only CONT and CLR are accepted (R222). -/
theorem accepted_of_paused {i : Instr} {s : State} (h : s.PAUSED = true) (hacc : firstError (checksOf i s) = .noError) :
    i = .cont ∨ i = .clr := by
  cases i with
  | cont => exact .inl rfl
  | clr => exact .inr rfl
  | ark a => by_cases ha : a.toNat ≤ 10 <;> simp [checksOf, ha, firstError_checkIdle, h] at hacc
  | _ => simp [checksOf, firstError_checkIdle, h] at hacc

/-- During an operation a command other than CLR keeps it running or ends it. -/
theorem Running.after_exec {i : Instr} {s t : State} (h : Running d p k s) (hi : i ≠ .clr) (hx : exec i s = .next t) :
    Running d p k t ∨ t = afterCipher (cipherOf d p k) s := by
  obtain ⟨hacc, he⟩ | ⟨-, he⟩ := exec_cases i s
  · obtain rfl := (accepted_of_paused h.paused hacc).resolve_right hi
    obtain rfl := Host.Outcome.next.inj (he.symm.trans hx)
    obtain ⟨hr, -⟩ | hend := h.after_runSequence
    · exact .inl (hr.bus)
    · exact .inr hend
  · obtain rfl := Host.Outcome.next.inj (he.symm.trans hx)
    exact .inl (h.bus)

/-- The same of a command word. -/
theorem Running.after_issueWord {w : CmdWord} {s t : State} (h : Running d p k s) (hw : opField w ≠ 0x31)
    (hx : issueWord w s = .next t) : Running d p k t ∨ t = afterCipher (cipherOf d p k) s := by
  obtain ⟨i, hd, hi⟩ | ⟨e, -, he⟩ := issueWord_cases w s
  · refine h.after_exec (fun hclr => hw ?_) (hi.symm.trans hx)
    rw [(decode_ok_fields hd).1, hclr]
    decide
  · obtain rfl := Host.Outcome.next.inj (he.symm.trans hx)
    exact .inl (h.bus)

/-- No command word touches what the host does next. -/
theorem issueWord_pending {w : CmdWord} {s t : State} (h : issueWord w s = .next t) : t.pending = s.pending := by
  obtain ⟨i, -, hi⟩ | ⟨e, -, he⟩ := issueWord_cases w s
  · obtain ⟨-, -, -, hp, -⟩ := exec_frame (hi.symm.trans h)
    exact hp
  · obtain rfl := Host.Outcome.next.inj (he.symm.trans h)
    rfl

/-- A state of an operation on `p` under `k`: it runs and the host will neither reset nor issue CLR, or it has just
ended. -/
def InOperation (d : Direction) (p k : Block) (s : State) : Prop :=
  (Running d p k s ∧ ∀ act ∈ s.pending, keepsOperation act = true) ∨ ∃ u, s = afterCipher (cipherOf d p k) u

/-- An operation goes on through every action R195 allows. -/
theorem Running.after_step {s t : State} (h : Running d p k s) (hacts : ∀ act ∈ s.pending, keepsOperation act = true)
    (hs : step s = .next t) : InOperation d p k t := by
  obtain ⟨-, he⟩ | ⟨a, rest, hp, he⟩ | ⟨v, rest, hp, he⟩ | ⟨a, v, rest, -, hp, he⟩ | ⟨rest, hp, -⟩ := step_cases s
  · obtain rfl := Host.Outcome.next.inj (he.symm.trans hs)
    exact .inl ⟨h, hacts⟩
  all_goals
    rw [hp, List.forall_mem_cons] at hacts
    obtain ⟨hact, hrest⟩ := hacts
  · obtain rfl := Host.Outcome.next.inj (he.symm.trans hs)
    exact .inl ⟨h.bus, hrest⟩
  · have hword := he.symm.trans hs
    have hop : opField (cmdWord v s.ARGA s.ARGB) ≠ 0x31 := by simpa [keepsOperation] using hact
    obtain hr | hend := Running.after_issueWord (s := s.takeAction rest) (h.bus) hop hword
    · exact .inl ⟨hr, by rw [issueWord_pending hword]; exact hrest⟩
    · exact .inr ⟨_, hend⟩
  · obtain rfl := Host.Outcome.next.inj (he.symm.trans hs)
    rw [writeRegister_of_paused (s := s.takeAction rest) h.paused]
    exact .inl ⟨h.bus, hrest⟩
  · cases hact

/-- The first step of a run that answers a state. -/
theorem run_succ_inv {M : Host.Core} {s t : M.State} {n : Nat} (h : M.run (n + 1) s = .next t) :
    ∃ u, M.step s = .next u ∧ M.run n u = .next t := by
  rw [Host.Core.run] at h
  split at h
  case h_1 u hu => exact ⟨u, hu, h⟩
  all_goals cases h

/-- A run goes on from the state its first `j` steps answer. -/
theorem run_add_of_run {M : Host.Core} {s t : M.State} {j : Nat} (h : M.run j s = .next t) (n : Nat) :
    M.run (j + n) s = M.run n t := by
  induction j generalizing s with
  | zero =>
    obtain rfl := Host.Outcome.next.inj h
    rw [Nat.zero_add]
  | succ j ih =>
    obtain ⟨u, hu, hr⟩ := run_succ_inv h
    rw [Nat.succ_add, run_succ_of_step hu, ih hr]

/-- The first state of an operation with nothing paused is its end. -/
theorem InOperation.first_idle {s t : State} {n : Nat} (h : InOperation d p k s) (hrun : core.run n s = .next t)
    (hidle : t.PAUSED = false) (hpaused : ∀ m u, m < n → core.run m s = .next u → u.PAUSED = true) :
    ∃ u, t = afterCipher (cipherOf d p k) u := by
  induction n generalizing s with
  | zero =>
    obtain rfl : s = t := Host.Outcome.next.inj hrun
    exact h.resolve_left fun ⟨hr, _⟩ => absurd hr.paused (by simp [hidle])
  | succ n ih =>
    have hs : s.PAUSED = true := hpaused 0 s (by omega) rfl
    obtain ⟨hr, hacts⟩ | ⟨u, rfl⟩ := h
    · obtain ⟨u, hu, hrest⟩ := run_succ_inv hrun
      refine ih (hr.after_step hacts hu) hrest fun m v hm hv => hpaused (m + 1) v (by omega) ?_
      rw [run_succ_of_step hu, hv]
    · cases hs

/-- The step that starts an operation. -/
theorem step_startOp {s : State} {d : Direction} {rest : List HostAction}
    (h : s.pending = .write 0x000 (startOp d) :: rest) : step s = exec (startOf d) (s.takeAction rest) := by
  rw [step_cmd h, issueWord, decode_startOp]

/-- An accepted ENC or DEC starts an operation. -/
theorem step_startOp_inOperation {s : State} {d : Direction} {rest : List HostAction}
    (h : s.pending = .write 0x000 (startOp d) :: rest) (hidle : s.PAUSED = false) (hkey : s.KLEN = 16)
    (hblock : s.DLEN = 16) (hrest : ∀ act ∈ rest, keepsOperation act = true) :
    ∃ t, step s = .next t ∧ InOperation d s.DIN s.KEY t := by
  have hx := exec_startOf (s := s.takeAction rest) d hidle hkey hblock
  refine ⟨_, (step_startOp h).trans hx, ?_⟩
  obtain ⟨hr, -⟩ | hend := (running_beginSequence d (s.takeAction rest)).after_runSequence
  · obtain ⟨-, -, -, hp, -⟩ := exec_frame hx
    exact .inl ⟨hr.bus, by rw [hp]; exact hrest⟩
  · exact .inr ⟨_, hend⟩

/-! ## A traced operation, entry by entry (R195) -/

/-- `u` is the traced operation the state `s` started, paused after `n` entries with `acts` to come; what CLR keeps is
still as in `s`. -/
structure PausedAt (d : Direction) (s : State) (n : Nat) (acts : List HostAction) (u : State) : Prop where
  running : Running d s.DIN s.KEY u
  entries : u.STEP.val = n
  trace : u.TRACE = true
  pending : u.pending = acts
  frame : ∀ c, afterCipher c u = { afterCipher c s with pending := acts, rdata := none }

/-- The step of CONT with a sequence paused (R191). -/
theorem step_cont {s : State} {rest : List HostAction} (h : s.pending = .write 0x000 0x30 :: rest)
    (hpaused : s.PAUSED = true) : step s = .next ((runSequence (s.takeAction rest)).setERR .noError) := by
  have hdecode : decode (cmdWord 0x30 s.ARGA s.ARGB) = .ok .cont := by simp [decode]
  rw [step_cmd h, issueWord, hdecode]
  refine exec_accepts (i := .cont) ?_
  rw [checksOf, checkPaused_of_paused (s := s.takeAction rest) hpaused, firstError_noError, firstError_nil]

variable {s u : State} {acts : List HostAction}

/-- A traced ENC or DEC pauses after entry 0. -/
theorem step_startOp_pausedAt (h : s.pending = .write 0x000 (startOp d) :: acts) (hidle : s.PAUSED = false)
    (hkey : s.KLEN = 16) (hblock : s.DLEN = 16) (htrace : s.TRACE = true) :
    ∃ u, step s = .next u ∧ PausedAt d s 1 acts u := by
  have hlt : ((s.takeAction acts).beginSequence d).STEP.val + 1 < 44 := by simp
  have hx := exec_startOf (s := s.takeAction acts) d hidle hkey hblock
  rw [runSequence_of_traced hlt htrace] at hx
  refine ⟨_, (step_startOp h).trans hx, ?_⟩
  have hrunning := (running_beginSequence d (s.takeAction acts)).after_pass hlt
  rw [State.pass_eq] at hrunning ⊢
  exact ⟨hrunning.bus, rfl, htrace, rfl, fun _ => rfl⟩

/-- CONT runs one entry. -/
theorem PausedAt.cont {n : Nat} (h : PausedAt d s n (.write 0x000 0x30 :: acts) u) (hn : n < 43) :
    ∃ v, step u = .next v ∧ PausedAt d s (n + 1) acts v := by
  have hlt : (u.takeAction acts).STEP.val + 1 < 44 := by
    have := h.entries
    simp only [State.takeAction_STEP]
    omega
  have hstep := step_cont h.pending h.running.paused
  rw [runSequence_of_traced hlt h.trace] at hstep
  refine ⟨_, hstep, ?_⟩
  have hbus : Running d s.DIN s.KEY (u.takeAction acts) := h.running.bus
  have hrunning := hbus.after_pass hlt
  rw [State.pass_eq] at hrunning ⊢
  refine ⟨hrunning.bus, congrArg (· + 1) h.entries, h.trace, rfl, fun c => ?_⟩
  exact congrArg (State.takeAction acts) (h.frame c)

/-- CONT after entry 42 ends the operation with the cipher's result. -/
theorem PausedAt.last (h : PausedAt d s 43 (.write 0x000 0x30 :: acts) u) :
    step u = .next { afterCipher (cipherOf d s.DIN s.KEY) s with pending := acts, rdata := none } := by
  have hlast : (u.takeAction acts).STEP = 43 := Fin.ext h.entries
  rw [step_cont h.pending h.running.paused, runSequence, runLoop_succ_of_last hlast, ← h.running.result h.entries]
  exact congrArg (fun t => Host.Outcome.next (State.takeAction acts t)) (h.frame u.DOUT)

/-- `j` CONTs run `j` entries. -/
theorem PausedAt.run_conts {n j : Nat} (h : PausedAt d s n (List.replicate j (.write 0x000 0x30) ++ acts) u)
    (hj : n + j ≤ 43) : ∃ v, core.run j u = .next v ∧ PausedAt d s (n + j) acts v := by
  induction j generalizing n u with
  | zero => exact ⟨u, rfl, h⟩
  | succ j ih =>
    obtain ⟨v, hv, hat⟩ := h.cont (by omega)
    obtain ⟨w, hw, hend⟩ := ih hat (by omega)
    refine ⟨w, (run_succ_of_step (M := core) hv j).trans hw, ?_⟩
    rwa [Nat.add_assoc, Nat.add_comm 1 j] at hend

/-- A traced ENC or DEC and `m` CONTs have run `m + 1` entries. -/
theorem traced_run {m : Nat} (hm : m < 43)
    (h : s.pending = .write 0x000 (startOp d) :: (List.replicate m (.write 0x000 0x30) ++ acts))
    (hidle : s.PAUSED = false) (hkey : s.KLEN = 16) (hblock : s.DLEN = 16) (htrace : s.TRACE = true) :
    ∃ u, core.run (m + 1) s = .next u ∧ PausedAt d s (m + 1) acts u := by
  obtain ⟨t, ht, hat⟩ := step_startOp_pausedAt h hidle hkey hblock htrace
  obtain ⟨u, hu, hpaused⟩ := hat.run_conts (by omega)
  rw [Nat.add_comm 1 m] at hpaused
  exact ⟨u, (run_succ_of_step (M := core) ht m).trans hu, hpaused⟩

end Sys2Proof.Machine

open Sys2Proof Sys2Proof.Machine

/-- Settles O27: one command by `exec_sameControl`, one command word by `issueWord_sameControl`. -/
theorem controlIndependentOfData : Obligations.ControlIndependentOfData :=
  fun _ _ h => ⟨currentEntry_congr h, exec_sameControl h, issueWord_sameControl h⟩

/-- Settles O49: the nine rounds by `foldl_reverse_undo`. -/
theorem cipherRoundTrip : Obligations.CipherRoundTrip :=
  fun p k => ⟨decryptBlock_encryptBlock p k, encryptBlock_decryptBlock p k⟩

/-- Settles O39: with a wrong length only CLR and reset do not keep a counter or count it up (`step_counts_of_wrongLength`),
and neither brings it to 0 (`ne_zero_of_keeps_or_counts`). -/
theorem clrDiscards : Obligations.ClrDiscards := by
  refine ⟨rfl, exec_clr, fun s t h => ?_, fun s t h hidle hne h16 hzero => ?_, fun s t h hidle hne h16 hzero => ?_⟩
  · obtain rfl := Host.Outcome.next.inj ((exec_clr s).symm.trans h)
    rfl
  · exact (step_counts_of_wrongLength h hidle (.inl h16)).resolve_right fun ⟨hk, _⟩ =>
      ne_zero_of_keeps_or_counts hk hne hzero
  · exact (step_counts_of_wrongLength h hidle (.inr h16)).resolve_right fun ⟨_, hd⟩ =>
      ne_zero_of_keeps_or_counts hd hne hzero

/-- Settles O29: LOAD checks that the core is idle, then that DLEN is 16; its effect is the write of S. -/
theorem loadCopiesInputBlock : Obligations.LoadCopiesInputBlock := by
  refine ⟨rfl, fun s hidle hlen => ?_, fun s hidle hlen => ?_, fun s hpaused => exec_refuses_of_paused rfl hpaused⟩
  · exact exec_accepts (by simp [checksOf, checkIdle_of_idle hidle, checkBlockLength_of_right hlen])
  · exact exec_refuses (by simp [checksOf, checkIdle_of_idle hidle, checkBlockLength_of_wrong hlen]) (by decide)

/-- Settles O36: of the commands only EMIT and those that run a sequence change DOUT (`exec_DOUT_changed`), and no register
write does. -/
theorem emitCopiesState : Obligations.EmitCopiesState := by
  refine ⟨rfl, fun s hidle => exec_accepts_of_idle rfl hidle, fun i s t h hne => ?_, fun s t h hne => ?_,
    fun s hpaused => exec_refuses_of_paused rfl hpaused⟩
  · obtain ⟨rfl, -⟩ | hmem := exec_DOUT_changed h hne
    · exact List.mem_cons_self
    · exact List.mem_cons_of_mem _ hmem
  · obtain ⟨rest, hp | ⟨v, hp, hw⟩ | ⟨a, v, -, -, rfl⟩⟩ := step_changes_register State.DOUT (fun _ => rfl) h hne
    · exact ⟨rest, .inl hp⟩
    · obtain ⟨i, hd, hi⟩ := issueWord_selects_of_changed State.DOUT (fun _ _ => rfl) hw hne
      have hemit := exec_DOUT_changed hi hne
      exact ⟨rest, .inr ⟨v, i, hp, hd, hemit⟩⟩
    · exact absurd (writeRegister_DOUT a v _) hne

/-- Settles O53: the cases of `startOf` at ENC. -/
theorem encEncryptsBlock : Obligations.EncEncryptsBlock :=
  ⟨rfl, exec_startOf_untraced .encryption, exec_startOf_traced .encryption, exec_startOf_wrongLength .encryption,
    exec_startOf_paused .encryption⟩

/-- Settles O54: the cases of `startOf` at DEC. -/
theorem decDecryptsBlock : Obligations.DecDecryptsBlock :=
  ⟨rfl, exec_startOf_untraced .decryption, exec_startOf_traced .decryption, exec_startOf_wrongLength .decryption,
    exec_startOf_paused .decryption⟩

/-- Settles O57: whatever the host does, by the invariant `InOperation`; with no CONT and with 43 of them, by the runs of an
untraced and a traced operation; the round trip by O49. -/
theorem operationEndsWithCipherResult : Obligations.OperationEndsWithCipherResult := by
  refine ⟨fun s t d acts n hidle hkey hblock hp hacts hrun ht hpaused => ?_,
    fun s d rest hidle hkey hblock htrace hp => ?_, fun s d rest hidle hkey hblock htrace hp => ⟨?_, fun m u hm hu => ?_⟩,
    fun s u hs hsk hsd hst hu huk hud hut t ht hdin hkey => ?_⟩
  · obtain ⟨v, hv, hop⟩ := step_startOp_inOperation hp hidle hkey hblock hacts
    rw [run_succ_of_step (M := core) hv] at hrun
    obtain ⟨w, rfl⟩ := hop.first_idle hrun ht fun m u hm hu =>
      hpaused m u hm ((run_succ_of_step (M := core) hv m).trans hu)
    exact ⟨rfl, rfl, rfl, rfl, rfl, rfl, rfl, rfl, rfl⟩
  · rw [step_startOp hp]
    exact exec_startOf_untraced d (s.takeAction rest) hidle hkey hblock htrace
  · obtain ⟨v, hv, hat⟩ := traced_run (m := 42) (acts := .write 0x000 0x30 :: rest) (by omega) hp hidle hkey hblock htrace
    rw [run_add_of_run hv 1, run_succ_of_step (M := core) hat.last]
    rfl
  · have hsplit : 43 = m + (43 - m) := by omega
    rw [hsplit, ← List.replicate_append_replicate, List.append_assoc] at hp
    obtain ⟨v, hv, hat⟩ := traced_run hm hp hidle hkey hblock htrace
    obtain rfl := Host.Outcome.next.inj (hv.symm.trans hu)
    refine ⟨hat.running.paused, hat.entries, ?_⟩
    rw [hat.running.block (by rw [hat.entries]; omega), hat.entries]
  · obtain rfl := Host.Outcome.next.inj ((exec_startOf_untraced .encryption s hs hsk hsd hst).symm.trans ht)
    refine ⟨_, exec_startOf_untraced .decryption u hu huk hud hut, ?_⟩
    show decryptBlock u.DIN u.KEY = s.DIN
    rw [hdin, hkey]
    exact decryptBlock_encryptBlock s.DIN s.KEY

end

section
/-! PROOFS of the exceptions family (spec/60_exceptions.md): what a CMD write does by the code of the check list of R223. -/

namespace Sys2Proof.Machine

/-- A command word that passes every check of R223 runs the command it selects, and one that fails a check sets ERR to the
code of the first that fails and changes nothing else (R224). -/
theorem issueWord_cases_of_refusalCode (w : CmdWord) (s : State) :
    (refusalCode (opField w) (aField w) s = .noError ∧
      ∃ i t, decode w = .ok i ∧ exec i s = .next t ∧ t.ERR = .noError ∧ issueWord w s = .next t) ∨
    (refusalCode (opField w) (aField w) s ≠ .noError ∧
      issueWord w s = .next (s.setERR (refusalCode (opField w) (aField w) s))) := by
  obtain ⟨i, hd, hi⟩ | ⟨e, hd, he⟩ := issueWord_cases w s
  · rw [refusalCode_of_decode_ok hd]
    obtain ⟨hc, hx⟩ | ⟨hc, hx⟩ := exec_cases i s
    · exact .inl ⟨hc, i, _, hd, hx, rfl, hi.trans hx⟩
    · exact .inr ⟨hc, hi.trans hx⟩
  · rw [refusalCode_of_decode_error hd]
    exact .inr ⟨by decide, he⟩

end Sys2Proof.Machine

open Sys2Proof Sys2Proof.Machine

/-- Settles O23: the CMD write issues the word `{v, ARGA, ARGB}`, which either passes every check or fails a first one
(`issueWord_cases_of_refusalCode`). -/
theorem firstFailedCheckDecides : Obligations.FirstFailedCheckDecides := by
  intro s v rest hp
  rw [step_cmd hp]
  have hword := issueWord_cases_of_refusalCode (cmdWord v s.ARGA s.ARGB) (s.takeAction rest)
  simp only [opField_cmdWord, aField_cmdWord, refusalCode_takeAction] at hword
  obtain ⟨hc, i, t, hd, hx, hERR, ht⟩ | ⟨hc, ht⟩ := hword
  · exact ⟨t, ht, hERR.trans hc.symm, fun _ => ⟨i, hd, hx⟩, fun hne => absurd hc hne⟩
  · exact ⟨_, ht, rfl, fun h => absurd h hc, fun _ => rfl⟩

end

section
/-! PROOFS of the encoding, one step and the register space: which words select a command (spec/30_encoding.md R90 to R94),
the step that runs one (R91), and the "content on read" column of spec/20_memory.md R61. -/

namespace Sys2Proof.Machine

/-! ## Decoding -/

/-- What a word must say to select a command (R90, R92, R94): a well-formed command's op, and its operand bytes in the
fields it uses. -/
theorem decode_eq_ok_iff (w : CmdWord) (i : Instr) :
    decode w = .ok i ↔
      i.wellFormed = true ∧ opField w = opField (encode i) ∧ (usesA i = true → aField w = aField (encode i)) ∧
        (usesB i = true → bField w = bField (encode i)) := by
  constructor
  · intro h
    obtain ⟨hop, -⟩ := decode_ok_fields h
    obtain ⟨ha, hb⟩ := decode_ok_operands h
    exact ⟨wellFormed_of_decode_ok h, hop, fun hu => (ha hu).symm, fun hu => (hb hu).symm⟩
  · rintro ⟨hwf, hop, ha, hb⟩
    cases i with
    | ark a =>
      simp only [encode, opField_cmdWord, aField_cmdWord, Instr.wellFormed, decide_eq_true_eq] at hop ha hwf
      simp [decode, hop, ha rfl, hwf]
    | gfmul a b =>
      simp only [encode, opField_cmdWord, aField_cmdWord, bField_cmdWord] at hop ha hb
      simp [decode, hop, ha rfl, hb rfl]
    | sbox a | isbox a =>
      simp only [encode, opField_cmdWord, aField_cmdWord] at hop ha
      simp [decode, hop, ha rfl]
    | _ =>
      simp only [encode, opField_cmdWord] at hop
      simp [decode, hop]

/-- The word `withFetchWord` places is its argument's low 24 bits. -/
theorem withFetchWord_eq (s : State) (w : Nat) : s.withFetchWord 24 w = placeWord (BitVec.ofNat 24 w) s := by
  have hw : tableWord 24 w = BitVec.ofNat 24 w := BitVec.eq_of_toNat_eq (by simp [tableWord])
  rw [State.withFetchWord, hw]

/-! ## The bytes of the control registers -/

theorem ctrlByte_eq (s : State) : ctrlByte s = BitVec.ofNat 8 s.TRACE.toNat := by
  unfold ctrlByte
  cases s.TRACE <;> rfl

theorem statusByte_eq (s : State) :
    statusByte s = BitVec.ofNat 8 (4 * s.ERR.code.toNat + 2 * s.DIR.bit.toNat + s.PAUSED.toNat) := by
  unfold statusByte
  cases s.ERR <;> cases s.DIR <;> cases s.PAUSED <;> rfl

theorem stepByte_eq (s : State) : stepByte s = BitVec.ofNat 8 s.STEP.val := by
  unfold stepByte
  generalize s.STEP = n
  revert n
  decide

theorem countByte_eq (n : BitVec 5) : countByte n = BitVec.ofNat 8 n.toNat := by
  revert n
  decide

/-- The byte of the read at a 9-bit address. -/
theorem busRead_ofNat (s : State) {n : Nat} (h : n < 512) : busRead s (BitVec.ofNat 9 n) = readLocation s n := by
  rw [busRead, BitVec.toNat_ofNat, Nat.mod_eq_of_lt h]

/-- The four 16-byte windows of R61. -/
theorem readLocation_block (s : State) (i : Fin 16) :
    readLocation s (0x010 + i.val) = s.KEY[i] ∧ readLocation s (0x020 + i.val) = s.DIN[i] ∧
      readLocation s (0x030 + i.val) = s.DOUT[i] ∧ readLocation s (0x040 + i.val) = s.S[i] := by
  simp (disch := omega) only [readLocation, if_neg, dif_neg, dif_pos, Nat.add_sub_cancel_left, Fin.getElem_fin, and_self]

/-- The window of the schedule: word i, byte j at 0x100 + 4i + j (R61). -/
theorem readLocation_schedule (s : State) (i : Fin 44) (j : Fin 4) :
    readLocation s (0x100 + 4 * i.val + j.val) = (s.W[i])[j] := by
  have hword : (0x100 + 4 * i.val + j.val - 0x100) / 4 = i.val := by omega
  have hbyte : (0x100 + 4 * i.val + j.val - 0x100) % 4 = j.val := by omega
  simp (disch := omega) only [readLocation, if_neg, dif_neg, dif_pos, hword, hbyte, Fin.getElem_fin]

end Sys2Proof.Machine

open Sys2Proof Sys2Proof.Machine

/-- Settles O7: a command's own word says what `decode_eq_ok_iff` asks. -/
theorem decodeOfEncode : Obligations.DecodeOfEncode :=
  fun i h => (decode_eq_ok_iff _ i).2 ⟨h, rfl, fun _ => rfl, fun _ => rfl⟩

/-- Settles O9: `decode_eq_ok_iff` does not look at the fields a command ignores. -/
theorem ignoredFieldsDoNotMatter : Obligations.IgnoredFieldsDoNotMatter := by
  intro op a b a' b' i h ha hb
  simp only [decode_eq_ok_iff, opField_cmdWord, aField_cmdWord, bField_cmdWord] at h ⊢
  obtain ⟨hwf, hop, hfa, hfb⟩ := h
  exact ⟨hwf, hop, fun hu => (ha hu).trans (hfa hu), fun hu => (hb hu).trans (hfb hu)⟩

/-- Settles O6: the ten words, each decoded. -/
theorem commandWordsDecode : Obligations.CommandWordsDecode := by
  unfold Obligations.CommandWordsDecode
  decide

/-- Settles O11: the step of a write to CMD, with the word decoded. -/
theorem stepRunsDecodedCommand : Obligations.StepRunsDecodedCommand := by
  intro s v rest i hp hd
  rw [step_cmd hp, issueWord, hd]
  rfl

/-- Settles O12: the placed word is that of the CMD write the step performs (`cmdWord_fields`). -/
theorem placedWordIsRunNext : Obligations.PlacedWordIsRunNext := by
  intro s w i hd
  rw [withFetchWord_eq, step_cmd (s := placeWord (BitVec.ofNat 24 w) s) rfl]
  show issueWord (cmdWord (opField _) (aField _) (bField _)) _ = _
  rw [cmdWord_fields, issueWord, hd]
  rfl

/-- Settles O14: a step with no action to take. -/
theorem idleKeepsState : Obligations.IdleKeepsState := by
  intro s h
  rw [step, h]

/-- Settles O16: the single registers by their bytes, the windows by `readLocation_block` and `readLocation_schedule`, the rest
by `readLocation_reserved`. -/
theorem addressMapReads : Obligations.AddressMapReads := by
  refine fun s => ⟨rfl, rfl, rfl, ctrlByte_eq s, statusByte_eq s, stepByte_eq s, countByte_eq s.KLEN, countByte_eq s.DLEN,
    rfl, rfl, rfl, fun i => ?_, fun i j => ?_, fun a ha => readLocation_reserved s (by omega)⟩
  · rw [busRead_ofNat s (by omega), busRead_ofNat s (by omega), busRead_ofNat s (by omega), busRead_ofNat s (by omega)]
    exact readLocation_block s i
  · rw [busRead_ofNat s (by omega)]
    exact readLocation_schedule s i j

/-- Settles O22: a write by `step_write`, a read by the bits of `ctrlByte`, and TRACE passes through every command. -/
theorem controlRegister : Obligations.ControlRegister := by
  refine ⟨fun s v rest h => step_write (by decide) h, fun s => ?_, fun i s t h => ?_⟩
  · have hread : busRead s 0x003 = BitVec.ofNat 8 s.TRACE.toNat := ctrlByte_eq s
    rw [hread]
    refine ⟨by cases s.TRACE <;> rfl, fun k hk => ?_⟩
    have hne : k ≠ 0 := by omega
    cases s.TRACE <;> simp [BitVec.getLsbD_one, hne]
  · obtain ⟨-, -, htrace, -⟩ := exec_frame h
    exact htrace

end

section
/-! PROOFS of the invariants of a run (spec/10_state.md R29, spec/44_block_driver.md R197): what a run of the sequencer can
leave is said once, from every state, and both invariants, the course of STEP (R193), the end of `run()` (R188), CONT (R191)
and the "writes" column of R41 are read off from it. -/

namespace Sys2Proof.Machine

/-! ## A run of the sequencer from any state (R188) -/

/-- With a pass left for every entry still to run, the loop has returned: one more pass changes nothing. -/
theorem runLoop_succ_eq {fuel : Nat} {s : State} (h : 44 ≤ fuel + s.STEP.val) : runLoop (fuel + 1) s = runLoop fuel s := by
  induction fuel generalizing s with
  | zero => omega
  | succ fuel ih =>
    by_cases hlt : s.STEP.val + 1 < 44
    · have hstep : (s.pass hlt).STEP.val = s.STEP.val + 1 := rfl
      rw [runLoop_succ_eq_pass hlt, runLoop_succ_eq_pass hlt, ih (by omega)]
    · have hlast : s.STEP = 43 := Fin.ext (by omega : s.STEP.val = 43)
      rw [runLoop_succ_of_last hlast, runLoop_succ_of_last hlast]

/-- An untraced loop with a pass left for every entry still to run ends in CLR, the last one. -/
theorem runLoop_untraced {fuel : Nat} {s : State} (htrace : s.TRACE = false) (h : 44 ≤ fuel + s.STEP.val) :
    ∃ u : State, runLoop fuel s = u.clear := by
  induction fuel generalizing s with
  | zero => omega
  | succ fuel ih =>
    by_cases hlt : s.STEP.val + 1 < 44
    · have hstep : (s.pass hlt).STEP.val = s.STEP.val + 1 := rfl
      rw [runLoop_succ_eq_pass hlt, if_neg (by simp [htrace])]
      exact ih ((State.pass_TRACE hlt).trans htrace) (by omega)
    · exact ⟨s, runLoop_succ_of_last (Fin.ext (by omega : s.STEP.val = 43)) fuel⟩

/-- Everything a run can do: one pass when traced before the last entry, and otherwise it ends as CLR does. -/
theorem runSequence_cases (s : State) :
    (∃ h : s.STEP.val + 1 < 44, s.TRACE = true ∧ runSequence s = s.pass h) ∨ ∃ u : State, runSequence s = u.clear := by
  by_cases hlt : s.STEP.val + 1 < 44
  · cases htrace : s.TRACE with
    | false => exact .inr (runLoop_untraced htrace (by omega))
    | true => exact .inl ⟨hlt, rfl, runSequence_of_traced hlt htrace⟩
  · exact .inr ⟨s, runLoop_succ_of_last (Fin.ext (by omega : s.STEP.val = 43)) 43⟩

/-! ## What an accepted command writes (R41) -/

/-- S is written by LOAD, ARK, the transforms, CLR and the commands that run a sequence. -/
theorem effectOf_S (i : Instr) (s : State) :
    (effectOf i s).S = s.S ∨
    i ∈ ([.load, .subb, .isubb, .shr, .ishr, .mixc, .imixc, .enc, .dec, .cont, .clr] : List Instr) ∨ ∃ a, i = .ark a := by
  cases i with
  | kexp | emit | gfmul _ _ | sbox _ | isbox _ => simp [effectOf]
  | ark a => exact .inr (.inr ⟨a, rfl⟩)
  | _ => simp

/-- W is written by KEXP, CLR and the commands that run a sequence. -/
theorem effectOf_W (i : Instr) (s : State) :
    (effectOf i s).W = s.W ∨ i ∈ ([.kexp, .enc, .dec, .cont, .clr] : List Instr) := by
  cases i with
  | kexp | enc | dec | cont | clr => simp
  | ark a => by_cases h : a.toNat ≤ 10 <;> simp [effectOf, h]
  | _ => simp [effectOf]

/-- The buffers with their counters, and where the sequencer is: all that StatusInv looks at. -/
def bufferedOf (s : State) : (Block × BitVec 5) × (Block × BitVec 5) × Bool × Direction × Fin 44 :=
  ((s.KEY, s.KLEN), (s.DIN, s.DLEN), s.PAUSED, s.DIR, s.STEP)

/-- Of the commands only CLR and those that run a sequence write any of them. -/
theorem effectOf_buffered (i : Instr) (s : State) :
    bufferedOf (effectOf i s) = bufferedOf s ∨ i ∈ ([.enc, .dec, .cont, .clr] : List Instr) := by
  cases i with
  | enc | dec | cont | clr => simp
  | ark a => by_cases h : a.toNat ≤ 10 <;> simp [effectOf, h, bufferedOf]
  | _ => simp [effectOf, bufferedOf]

/-! ## What one step does to a sequence -/

/-- `t` is the state after the effect of ENC, DEC, CONT or CLR on `s`, or after a reset: the sequencer ran, or everything is
cleared. -/
inductive Sequenced (s t : State) : Prop where
  /-- An accepted ENC or DEC (R189, R190). -/
  | start (d : Direction) (hidle : s.PAUSED = false) (hkey : s.KLEN = 16) (hblock : s.DLEN = 16)
      (h : t = (runSequence (s.beginSequence d)).setERR .noError)
  /-- An accepted CONT (R191). -/
  | cont (hpaused : s.PAUSED = true) (h : t = (runSequence s).setERR .noError)
  /-- CLR or reset: what else a cleared state `u` holds is no concern of a sequence (R192, R250). -/
  | clear (u : State) (h : t = u.clear.setERR .noError)

/-- Every command sets ERR alone, or keeps an idle core's buffers and sequencer, or runs or clears the sequencer. -/
theorem exec_sequenced {i : Instr} {s t : State} (h : exec i s = .next t) :
    t = s.setERR t.ERR ∨ (s.PAUSED = false ∧ bufferedOf t = bufferedOf s) ∨ Sequenced s t := by
  obtain ⟨hacc, he⟩ | ⟨-, he⟩ := exec_cases i s
  · obtain rfl := Host.Outcome.next.inj (he.symm.trans h)
    by_cases hmem : i ∈ ([.enc, .dec, .cont, .clr] : List Instr)
    · simp only [List.mem_cons, List.not_mem_nil, or_false] at hmem
      obtain rfl | rfl | rfl | rfl := hmem
      · obtain ⟨hidle, hblock, hkey⟩ := (enc_accepted_iff s).1 hacc
        exact .inr (.inr (.start .encryption hidle hkey hblock rfl))
      · obtain ⟨hidle, hblock, hkey⟩ := (enc_accepted_iff s).1 hacc
        exact .inr (.inr (.start .decryption hidle hkey hblock rfl))
      · exact .inr (.inr (.cont (by simpa [checksOf, firstError_checkPaused] using hacc) rfl))
      · exact .inr (.inr (.clear s rfl))
    · have hidle : s.PAUSED = false := by
        by_contra hp
        obtain rfl | rfl := accepted_of_paused (Bool.eq_true_of_not_eq_false hp) hacc <;> simp at hmem
      exact .inr (.inl ⟨hidle, (effectOf_buffered i s).resolve_right hmem⟩)
  · obtain rfl := Host.Outcome.next.inj (he.symm.trans h)
    exact .inl rfl

/-- Only ENC, DEC, CONT and CLR change a buffer, a counter or the place of the sequencer (R41). -/
theorem exec_buffered_changed {i : Instr} {s t : State} (h : exec i s = .next t) (hne : bufferedOf t ≠ bufferedOf s) :
    i = .enc ∨ i = .dec ∨ i = .cont ∨ i = .clr := by
  obtain ⟨-, rfl⟩ := exec_accepted_of_changed bufferedOf (fun _ _ => rfl) h hne
  simpa using (effectOf_buffered i s).resolve_left hne

/-- `q` is the buffer and counter `p` as they were, or after one push (R69, R70). -/
def Filled (p q : Block × BitVec 5) : Prop := q = p ∨ ∃ v, q = (storePushed p.1 p.2 v, countUp p.2)

/-- Bytes not yet pushed stay zero. -/
theorem Filled.unpushed_zero {b b' : Block} {n n' : BitVec 5} (h : Filled (b, n) (b', n'))
    (hzero : ∀ i : Fin 16, n.toNat ≤ i.val → b[i] = 0) (i : Fin 16) (hi : n'.toNat ≤ i.val) : b'[i] = 0 := by
  obtain hkeep | ⟨v, hpush⟩ := h
  · obtain ⟨rfl, rfl⟩ := Prod.mk.inj hkeep
    exact hzero i hi
  · simp only [Prod.mk.injEq] at hpush
    obtain ⟨rfl, rfl⟩ := hpush
    rw [countUp_toNat] at hi
    rw [storePushed_getElem, if_neg (by omega)]
    exact hzero i (by omega)

/-- A step of an idle core that leaves it idle: at most a push. -/
structure IdleStep (s t : State) : Prop where
  before : s.PAUSED = false
  after : t.PAUSED = false
  dir : t.DIR = s.DIR
  entry : t.STEP = s.STEP
  key : Filled (s.KEY, s.KLEN) (t.KEY, t.KLEN)
  din : Filled (s.DIN, s.DLEN) (t.DIN, t.DLEN)

theorem IdleStep.of_bufferedOf_eq {s t : State} (hidle : s.PAUSED = false) (h : bufferedOf t = bufferedOf s) :
    IdleStep s t := by
  simp only [bufferedOf, Prod.mk.injEq] at h
  obtain ⟨⟨hkey, hklen⟩, ⟨hdin, hdlen⟩, hpaused, hdir, hstep⟩ := h
  exact ⟨hidle, hpaused.trans hidle, hdir, hstep, .inl (by rw [hkey, hklen]), .inl (by rw [hdin, hdlen])⟩

/-- A register write on an idle core (R61). -/
theorem writeRegister_idleStep {s : State} (h : s.PAUSED = false) (a : Addr) (v : Byte) :
    IdleStep s (writeRegister a v s) := by
  have hkey : s.pushKey v = { s with KEY := storePushed s.KEY s.KLEN v, KLEN := countUp s.KLEN } := if_neg (by simp [h])
  have hdin : s.pushDin v = { s with DIN := storePushed s.DIN s.DLEN v, DLEN := countUp s.DLEN } := if_neg (by simp [h])
  obtain ⟨-, hw⟩ | ⟨-, hw⟩ | ⟨-, hw⟩ | ⟨-, hw⟩ | ⟨-, hw⟩ | ⟨-, -, -, -, -, hw⟩ := writeRegister_cases a v s
  case inr.inr.inr.inl =>
    rw [hw, hkey]
    exact ⟨h, h, rfl, rfl, .inr ⟨v, rfl⟩, .inl rfl⟩
  case inr.inr.inr.inr.inl =>
    rw [hw, hdin]
    exact ⟨h, h, rfl, rfl, .inl rfl, .inr ⟨v, rfl⟩⟩
  all_goals
    rw [hw]
    exact .of_bufferedOf_eq h rfl

/-- Everything a step can do to a sequence: the bus registers, ERR and the host's side change alone, or an idle core stays
idle, or the sequencer is started, continued or cleared. -/
theorem step_sequenced {s t : State} (h : step s = .next t) :
    (∃ a b c e l r, t = { s with ARGA := a, ARGB := b, TRACE := c, ERR := e, pending := l, rdata := r }) ∨
    IdleStep s t ∨ ∃ rest, Sequenced (s.takeAction rest) t := by
  obtain ⟨-, he⟩ | ⟨a, rest, -, he⟩ | ⟨v, rest, -, he⟩ | ⟨a, v, rest, -, -, he⟩ | ⟨rest, -, he⟩ := step_cases s
  · obtain rfl := Host.Outcome.next.inj (he.symm.trans h)
    exact .inl ⟨_, _, _, _, _, _, rfl⟩
  · obtain rfl := Host.Outcome.next.inj (he.symm.trans h)
    exact .inl ⟨_, _, _, _, _, _, rfl⟩
  · obtain ⟨i, -, hi⟩ | ⟨e, -, hi⟩ := issueWord_cases (cmdWord v s.ARGA s.ARGB) (s.takeAction rest)
    · obtain hERR | ⟨hidle, hkeep⟩ | hseq := exec_sequenced (hi.symm.trans (he.symm.trans h))
      · exact .inl ⟨_, _, _, _, _, _, hERR⟩
      · exact .inr (.inl (.of_bufferedOf_eq hidle hkeep))
      · exact .inr (.inr ⟨rest, hseq⟩)
    · obtain rfl := Host.Outcome.next.inj (hi.symm.trans (he.symm.trans h))
      exact .inl ⟨_, _, _, _, _, _, rfl⟩
  · obtain rfl := Host.Outcome.next.inj (he.symm.trans h)
    by_cases hp : s.PAUSED = false
    · obtain ⟨-, after, dir, entry, key, din⟩ := writeRegister_idleStep (s := s.takeAction rest) hp a v
      exact .inr (.inl ⟨hp, after, dir, entry, key, din⟩)
    · rw [Bool.not_eq_false] at hp
      exact .inl ⟨_, _, _, _, _, _, writeRegister_of_paused (s := s.takeAction rest) hp a v⟩
  · obtain rfl := Host.Outcome.next.inj (he.symm.trans h)
    exact .inr (.inr ⟨rest, .clear (s.takeAction rest).resetCore rfl⟩)

/-! ## The invariants -/

/-- A cleared core meets R29. -/
theorem statusInv_clear (u : State) : StatusInv u.clear :=
  ⟨fun _ => ⟨rfl, rfl⟩, fun h => absurd h (by simp), fun i _ => by simp, fun i _ => by simp⟩

/-- A run of the sequencer from a paused state with the right lengths meets R29 (R188). -/
theorem statusInv_runSequence {s : State} (hpaused : s.PAUSED = true) (hkey : s.KLEN = 16) (hblock : s.DLEN = 16) :
    StatusInv (runSequence s) := by
  obtain ⟨hlt, -, hrun⟩ | ⟨u, hrun⟩ := runSequence_cases s
  · rw [hrun, State.pass_eq]
    refine ⟨fun h => absurd (hpaused.symm.trans h) (by decide), fun _ => ⟨Nat.le_add_left _ _, hkey, hblock⟩,
      fun i hi => absurd hi ?_, fun i hi => absurd hi ?_⟩
    · simp [hkey]
    · simp [hblock]
  · rw [hrun]
    exact statusInv_clear u

/-- R197 of a state in the terms of a running operation. -/
theorem traceInv_iff (s : State) :
    TraceInv s ↔ (s.PAUSED = true → 1 ≤ s.STEP.val ∧ Running s.DIR s.DIN s.KEY s) := by
  constructor
  · intro h hpaused
    obtain ⟨hstep, hS, hW, hDOUT⟩ := h hpaused
    exact ⟨hstep, hpaused, rfl, rfl, rfl, fun _ => hS, hW, hDOUT⟩
  · intro h hpaused
    obtain ⟨hstep, hrunning⟩ := h hpaused
    exact ⟨hstep, hrunning.block hstep, hrunning.schedule, hrunning.result⟩

/-- A run of the sequencer in the middle of an operation meets R197. -/
theorem Running.traceInv_runSequence {d : Direction} {p k : Block} {s : State} (h : Running d p k s) :
    TraceInv (runSequence s) := by
  rw [traceInv_iff]
  intro hpaused
  obtain ⟨hlt, -, hrun⟩ | ⟨u, hrun⟩ := runSequence_cases s
  · have hpass := h.after_pass hlt
    rw [hrun, hpass.dir, hpass.din, hpass.key]
    exact ⟨Nat.le_add_left _ _, hpass⟩
  · rw [hrun] at hpaused
    cases hpaused

/-- A run of the sequencer stops one entry on, or clears STEP (R193). -/
theorem runSequence_STEP (s : State) :
    (runSequence s).STEP.val = s.STEP.val + 1 ∨ (runSequence s).STEP = 0 := by
  obtain ⟨hlt, -, hrun⟩ | ⟨u, hrun⟩ := runSequence_cases s
  · exact .inl (by rw [hrun]; rfl)
  · exact .inr (by rw [hrun]; rfl)

/-! ## An entry and its command (R188, R191) -/

/-- Issued on an idle core with the right lengths, the command of an entry has the entry's effect (R188). -/
theorem exec_entryInstr {s : State} (hidle : s.PAUSED = false) (hkey : s.KLEN = 16) (hblock : s.DLEN = 16) (e : Entry) :
    exec (entryInstr e) s = .next ((performEntry e s).setERR .noError) := by
  cases e with
  | load => exact exec_accepts (by simp [entryInstr, checksOf, checkIdle_of_idle hidle, checkBlockLength_of_right hblock])
  | kexp => exact exec_accepts (by simp [entryInstr, checksOf, checkIdle_of_idle hidle, checkKeyLength_of_right hkey])
  | ark k => exact exec_ark_of_idle k hidle
  | clr => exact exec_clr s
  | _ => exact exec_accepts_of_idle rfl hidle

/-- CONT on a paused core runs the sequencer (R191). -/
theorem exec_cont {s : State} (hpaused : s.PAUSED = true) : exec .cont s = .next ((runSequence s).setERR .noError) :=
  exec_accepts (by simp [checksOf, checkPaused_of_paused hpaused])

/-- Before the last entry the sequencer is not at CLR. -/
theorem currentEntry_ne_clr {s : State} (h : s.STEP.val + 1 < 44) : currentEntry s ≠ .clr := by
  rw [Ne, currentEntry, entryAt_clr_iff]
  intro hlast
  simp [hlast] at h

/-- A pass before the last entry does what its entry does with nothing paused, PAUSED and STEP apart. -/
theorem State.pass_eq_performEntry {s : State} (h : s.STEP.val + 1 < 44) :
    s.pass h =
      { performEntry (currentEntry s) { s with PAUSED := false } with
        PAUSED := s.PAUSED
        STEP := ⟨s.STEP.val + 1, h⟩ } := by
  rw [State.pass_eq, performEntry_eq (currentEntry_ne_clr h)]

/-! ## The two tables undo each other (R185) -/

/-- The entry that undoes `e` on the State, for the entries that change it by a transform or a round key (R164). -/
def inverseEntry : Entry → Option Entry
  | .ark k => some (.ark k)
  | .subb => some .isubb
  | .shr => some .ishr
  | .mixc => some .imixc
  | .isubb => some .subb
  | .ishr => some .shr
  | .imixc => some .mixc
  | .load | .kexp | .emit | .clr => none

/-- An entry and its inverse undo each other on every block, in both orders. -/
theorem entryOnBlock_inverseEntry {e f : Entry} (h : inverseEntry e = some f) (w : Schedule) (p b : Block) :
    entryOnBlock w p (entryOnBlock w p b e) f = b ∧ entryOnBlock w p (entryOnBlock w p b f) e = b := by
  cases e with
  | load | kexp | emit | clr => cases h
  | _ =>
    obtain rfl := Option.some.inj h
    simp [entryOnBlock]

/-- The tables name the pairs: entry n of the decryption table is the inverse of entry 43 - n of the encryption table. -/
theorem inverseEntry_encryptionTable (n : Fin 44) (h2 : 2 ≤ n.val) (h : n.val < 42) :
    inverseEntry (encryptionTable[43 - n.val]'(by omega)) = some decryptionTable[n] := by
  revert n
  decide

end Sys2Proof.Machine

open Sys2Proof Sys2Proof.Machine

/-- Settles O4: the cases of `step_sequenced`. A push keeps the bytes not yet pushed zero, and a sequence starts and goes on
with the right lengths only. -/
theorem stepKeepsStatusInvariant : Obligations.StepKeepsStatusInvariant := by
  intro s t hs h
  obtain ⟨hidle, hpaused, hkey, hdin⟩ := hs
  obtain ⟨_, _, _, _, _, _, rfl⟩ | hstep | ⟨rest, hseq⟩ := step_sequenced h
  · exact ⟨hidle, hpaused, hkey, hdin⟩
  · refine ⟨fun _ => ?_, fun h => absurd (hstep.after.symm.trans h) (by decide), hstep.key.unpushed_zero hkey,
      hstep.din.unpushed_zero hdin⟩
    rw [hstep.entry, hstep.dir]
    exact hidle hstep.before
  · cases hseq with
    | start d _ hklen hdlen h =>
      subst h
      exact statusInv_runSequence (s := (s.takeAction rest).beginSequence d) rfl hklen hdlen
    | cont hp h =>
      subst h
      obtain ⟨-, hklen, hdlen⟩ := hpaused hp
      exact statusInv_runSequence (s := s.takeAction rest) hp hklen hdlen
    | clear u h =>
      subst h
      exact statusInv_clear u

/-- Settles O5: the cases of `step_sequenced`. A paused state that meets R197 is in the middle of its operation, and the run
of the sequencer keeps that (`Running.traceInv_runSequence`). -/
theorem stepKeepsTraceInvariant : Obligations.StepKeepsTraceInvariant := by
  intro s t hs h
  obtain ⟨_, _, _, _, _, _, rfl⟩ | hstep | ⟨rest, hseq⟩ := step_sequenced h
  · exact hs
  · exact fun hp => absurd (hstep.after.symm.trans hp) (by decide)
  · cases hseq with
    | start d _ _ _ h =>
      subst h
      exact (running_beginSequence d (s.takeAction rest)).traceInv_runSequence
    | cont hp h =>
      subst h
      obtain ⟨-, hrunning⟩ := (traceInv_iff s).1 hs hp
      exact (hrunning.bus : Running s.DIR s.DIN s.KEY (s.takeAction rest)).traceInv_runSequence
    | clear u h =>
      subst h
      exact fun hp => absurd hp (by simp)

/-- Settles O3: the reset state is a cleared one with nothing paused. -/
theorem resetMeetsInvariants : Obligations.ResetMeetsInvariants :=
  ⟨statusInv_clear State.reset, fun h => absurd h (by decide)⟩

/-- Settles O2: the step of a reset. -/
theorem resetFromAnyState : Obligations.ResetFromAnyState :=
  fun _ _ h => ⟨_, step_reset h, rfl⟩

/-- Settles O15: a command either performs its effect or sets ERR (`exec_cases`), and every action of the host ends in a next
state (`step_cases`). -/
theorem everyStepCompletes : Obligations.EveryStepCompletes := by
  have hexec (i : Instr) (s : State) : ∃ t, exec i s = .next t := by
    obtain ⟨-, h⟩ | ⟨-, h⟩ := exec_cases i s <;> exact ⟨_, h⟩
  refine ⟨hexec, fun s => ?_⟩
  obtain ⟨-, h⟩ | ⟨a, rest, -, h⟩ | ⟨v, rest, -, h⟩ | ⟨a, v, rest, -, -, h⟩ | ⟨rest, -, h⟩ := step_cases s
  case inr.inr.inl =>
    rw [h]
    obtain ⟨i, -, hi⟩ | ⟨e, -, hi⟩ := issueWord_cases (cmdWord v s.ARGA s.ARGB) (s.takeAction rest)
    · rw [hi]
      exact hexec i _
    · exact ⟨_, hi⟩
  all_goals exact ⟨_, h⟩

/-- Settles O26: a command that changes a register was accepted, and its effect writes that register. -/
theorem commandsWriteOnlyTheirRegisters : Obligations.CommandsWriteOnlyTheirRegisters := by
  intro i s t h
  refine ⟨exec_frame h, fun hne => ?_, fun hne => ?_, fun hne => ?_, fun hne => ?_, fun hne => ?_, fun hne => ?_⟩
  · obtain ⟨-, rfl⟩ := exec_accepted_of_changed State.S (fun _ _ => rfl) h hne
    exact (effectOf_S i s).resolve_left hne
  · obtain ⟨-, rfl⟩ := exec_accepted_of_changed State.W (fun _ _ => rfl) h hne
    exact (effectOf_W i s).resolve_left hne
  · obtain ⟨rfl, -⟩ | hmem := exec_DOUT_changed h hne
    · exact List.mem_cons_self
    · exact List.mem_cons_of_mem _ hmem
  · obtain ⟨a, b, hi, -⟩ | ⟨a, hi, -⟩ | ⟨a, hi, -⟩ := exec_R_changed h hne
    · exact .inl ⟨a, b, hi⟩
    · exact .inr (.inl ⟨a, hi⟩)
    · exact .inr (.inr ⟨a, hi⟩)
  · obtain rfl | rfl | rfl | rfl := exec_buffered_changed h fun heq => by simp_all [bufferedOf]
    all_goals decide
  · obtain rfl | rfl | rfl | rfl := exec_buffered_changed h fun heq => by simp_all [bufferedOf]
    all_goals decide

/-- Settles O28: the cases of `step_sequenced`; a sequence starts from STEP 0, where StatusInv has every idle state. -/
theorem stepCounterMovesByOneOrClears : Obligations.StepCounterMovesByOneOrClears := by
  intro s t hs h
  obtain ⟨hidle, -⟩ := hs
  obtain ⟨_, _, _, _, _, _, rfl⟩ | hstep | ⟨rest, hseq⟩ := step_sequenced h
  · exact .inl rfl
  · exact .inl hstep.entry
  · cases hseq with
    | start d hp _ _ h =>
      subst h
      obtain ⟨hzero, -⟩ := hidle hp
      rw [hzero]
      exact .inr (runSequence_STEP _)
    | cont _ h =>
      subst h
      exact .inr (runSequence_STEP _)
    | clear u h =>
      subst h
      exact .inr (.inr rfl)

/-- Settles O52: with a pass for every entry the loop has returned (`runLoop_succ_eq`), and untraced it ended in CLR
(`runLoop_untraced`). -/
theorem runEndsWithin44Entries : Obligations.RunEndsWithin44Entries := by
  refine ⟨fun s k hk => ?_, fun s htrace => ?_⟩
  · induction k, hk using Nat.le_induction with
    | base => rfl
    | succ k hk ih => rw [runLoop_succ_eq (by omega), ih]
  · obtain ⟨u, hrun⟩ := runLoop_untraced (fuel := 44) htrace (by omega)
    rw [runSequence, hrun]
    exact ⟨rfl, rfl⟩

/-- Settles O50: each entry's command word. -/
theorem sequenceTableWords : Obligations.SequenceTableWords := by
  constructor <;> rfl

/-- Settles O51: the tables name the pairs (`inverseEntry_encryptionTable`), and a pair undoes itself on every block. -/
theorem decryptionEntriesUndo : Obligations.DecryptionEntriesUndo := by
  intro w p b n h h2
  exact entryOnBlock_inverseEntry (inverseEntry_encryptionTable ⟨n, by omega⟩ h2 h) w p b

/-- Settles O55: one pass by `State.pass_eq_performEntry`, its entry as a command by `exec_entryInstr`, for which R29 gives
the right lengths. -/
theorem contRunsOneEntryWhenTraced : Obligations.ContRunsOneEntryWhenTraced := by
  refine ⟨rfl, fun s hs hpaused htrace h => ?_, fun s hpaused hlast => ?_, fun s hidle => ?_⟩
  · obtain ⟨-, hlengths, -⟩ := hs
    obtain ⟨-, hkey, hblock⟩ := hlengths hpaused
    refine ⟨_, exec_entryInstr (s := { s with PAUSED := false }) rfl hkey hblock (currentEntry s), rfl, ?_⟩
    rw [exec_cont hpaused, runSequence_of_traced h htrace, State.pass_eq_performEntry h, hpaused]
    rfl
  · rw [exec_cont hpaused, runSequence, runLoop_succ_of_last hlast]
    rfl
  · exact exec_refuses (by simp [checksOf, checkPaused_of_idle hidle]) (by decide)

/-- Settles O56: a paused state that meets R197 is in the middle of its operation, and an untraced run ends it
(`Running.after_runSequence`). -/
theorem contFinishesWhenUntraced : Obligations.ContFinishesWhenUntraced := by
  intro s hs hpaused htrace
  obtain ⟨-, hrunning⟩ := (traceInv_iff s).1 hs hpaused
  obtain ⟨-, ht⟩ | hend := hrunning.after_runSequence
  · exact absurd ht (by simp [htrace])
  · rw [exec_cont hpaused, hend]

end

section
/-! PROOFS of the pure functions: the multiplier as the field GF(2^8) and as the polynomial product (spec/40_gf_arithmetic.md
R112), the constant tables built from it (spec/41_constant_tables.md R121, R127), and which bytes a State transform looks at
(spec/43_state_transforms.md R165). -/

namespace Sys2Proof.Machine

/-! ## The field of the multiplier (R112) -/

/-- The second bit of the multiplier adds the doubled multiplicand; no bit is left for the other six iterations. -/
@[simp] theorem gfMultiply_two_right (a : Byte) : gfMultiply a 2#8 = xtime a := by
  have hfirst : gfMultiply a 2#8 = gfLoop 6 (xtime a) (xtime (xtime a)) 0#8 := by simp [gfMultiply, gfLoop]
  rw [hfirst, gfLoop_multiplier_zero]

/-- Doubling the multiplier doubles the product, since doubling is multiplication by 2 from either side. -/
theorem gfMultiply_xtime_right (a b : Byte) : gfMultiply a (xtime b) = xtime (gfMultiply a b) := by
  rw [← gfMultiply_two_right b, gfMultiply_assoc, gfMultiply_two_right]

theorem gfMultiply_comm (a b : Byte) : gfMultiply a b = gfMultiply b a := by
  induction a using byte_induction with
  | hzero => simp
  | hone => simp
  | hxtime a ih => rw [gfMultiply_xtime_left, gfMultiply_xtime_right, ih]
  | hxor a a' ih ih' => rw [gfMultiply_xor_left, gfMultiply_xor_right, ih, ih']

/-- The inverse of a byte under the multiplier, 0 for 0: R121 builds SBOX from it by an affine transform, and this is that
transform undone. -/
def gfInverse (x : Byte) : Byte := (sbox x).rotateLeft 1 ^^^ (sbox x).rotateLeft 3 ^^^ (sbox x).rotateLeft 6 ^^^ 0x05

/-- Checked byte by byte. -/
theorem gfMultiply_gfInverse {x : Byte} (h : x ≠ 0) : gfMultiply x (gfInverse x) = 0x01 := by
  revert x
  decide

/-- A byte has at most one inverse. -/
theorem gfMultiply_inverse_unique {a b c : Byte} (hb : gfMultiply a b = 0x01) (hc : gfMultiply a c = 0x01) : c = b :=
  calc c = gfMultiply (gfMultiply b a) c := by rw [gfMultiply_comm b a, hb]; exact (gfMultiply_one_left c).symm
    _ = gfMultiply b (gfMultiply a c) := (gfMultiply_assoc b a c).symm
    _ = b := by rw [hc]; exact gfMultiply_one_right b

/-- The affine transform of R121 on the inverse gives the table, checked byte by byte. -/
theorem sbox_eq_affine (x : Byte) :
    sbox x = gfInverse x ^^^ (gfInverse x).rotateLeft 1 ^^^ (gfInverse x).rotateLeft 2 ^^^ (gfInverse x).rotateLeft 3 ^^^
      (gfInverse x).rotateLeft 4 ^^^ 0x63 := by
  revert x
  decide

/-! ## Bytes as polynomials over GF(2) (R112) -/

section Polynomials

open Polynomial

/-- The polynomial a byte is read as: bit i is the coefficient of X^i. -/
noncomputable def polyOf (a : Byte) : (ZMod 2)[X] := ∑ i : Fin 8, if a.getLsbD i.val then X ^ i.val else 0

/-- The modulus of R112. -/
noncomputable def modulus : (ZMod 2)[X] := X ^ 8 + X ^ 4 + X ^ 3 + X + 1

/-- Over GF(2) exclusive or is the sum, bit by bit. -/
theorem polyOf_xor (a b : Byte) : polyOf (a ^^^ b) = polyOf a + polyOf b := by
  simp only [polyOf, ← Finset.sum_add_distrib]
  refine Finset.sum_congr rfl fun i _ => ?_
  rw [BitVec.getLsbD_xor]
  cases a.getLsbD i.val <;> cases b.getLsbD i.val <;> simp [CharTwo.add_self_eq_zero]

/-- Multiplication by X shifts the byte, and bit 7 leaves it as X^8. -/
theorem X_mul_polyOf (a : Byte) : X * polyOf a = polyOf (a <<< 1) + if a.getLsbD 7 then X ^ 8 else 0 := by
  have hmul : X * polyOf a =
      (∑ i : Fin 7, if a.getLsbD i.val then X ^ (i.val + 1) else 0) + if a.getLsbD 7 then X ^ 8 else 0 := by
    rw [polyOf, Finset.mul_sum, Fin.sum_univ_castSucc]
    simp [← pow_succ', -BitVec.getLsbD_eq_getElem]
  have hshift : polyOf (a <<< 1) = ∑ i : Fin 7, if a.getLsbD i.val then X ^ (i.val + 1) else 0 := by
    have hlt (i : Fin 7) : i.val + 1 < 8 := by omega
    rw [polyOf, Fin.sum_univ_succ]
    simp [hlt, -BitVec.getLsbD_eq_getElem]
  rw [hmul, hshift]

/-- 0x1B holds the lower terms of the modulus. -/
theorem modulus_eq : modulus = X ^ 8 + polyOf 0x1B := by
  have hlow : polyOf 0x1B = 1 + X + X ^ 3 + X ^ 4 := by simp [polyOf, Fin.sum_univ_eight]
  rw [hlow, modulus]
  ring

/-- A byte's polynomial modulo the modulus. -/
noncomputable def residueOf (a : Byte) : AdjoinRoot modulus := AdjoinRoot.mk modulus (polyOf a)

theorem residueOf_xor (a b : Byte) : residueOf (a ^^^ b) = residueOf a + residueOf b := by
  rw [residueOf, polyOf_xor, map_add, residueOf, residueOf]

/-- X^8, which leaves the byte, comes back as 0x1B. -/
theorem mk_X_pow_eight : AdjoinRoot.mk modulus (X ^ 8) = residueOf 0x1B := by
  rw [residueOf, AdjoinRoot.mk_eq_mk, CharTwo.sub_eq_add, ← modulus_eq]

/-- Doubling is multiplication by X modulo the modulus. -/
theorem residueOf_xtime (a : Byte) : residueOf (xtime a) = AdjoinRoot.root modulus * residueOf a := by
  have hshift := congrArg (AdjoinRoot.mk modulus) (X_mul_polyOf a)
  rw [map_mul, map_add, AdjoinRoot.mk_X] at hshift
  rw [residueOf.eq_def a, hshift, xtime]
  split
  · rw [residueOf_xor, ← mk_X_pow_eight, residueOf]
  · rw [map_zero, add_zero, residueOf]

/-- The multiplier is the product modulo the modulus. -/
theorem residueOf_gfMultiply (a b : Byte) : residueOf (gfMultiply a b) = residueOf a * residueOf b := by
  induction a using byte_induction with
  | hzero => simp [residueOf, polyOf]
  | hone => simp [residueOf, polyOf, Fin.sum_univ_eight]
  | hxtime a ih => rw [gfMultiply_xtime_left, residueOf_xtime, residueOf_xtime, ih, mul_assoc]
  | hxor a a' ih ih' => rw [gfMultiply_xor_left, residueOf_xor, residueOf_xor, ih, ih', add_mul]

end Polynomials

end Sys2Proof.Machine

open Sys2Proof Sys2Proof.Machine

/-- Settles O42: doubling, exclusive or and 1 determine the multiplier (`byte_induction`); the inverse is `gfInverse`. -/
theorem gfMultiplyFieldLaws : Obligations.GfMultiplyFieldLaws :=
  ⟨gfMultiply_comm, gfMultiply_assoc, gfMultiply_xor_right, gfMultiply_one_right, gfMultiply_zero_right,
    gfMultiply_two_right, fun a ha =>
    ⟨gfInverse a, gfMultiply_gfInverse ha, fun _ hc => gfMultiply_inverse_unique (gfMultiply_gfInverse ha) hc⟩⟩

/-- Settles O43: the residues agree (`residueOf_gfMultiply`), so the modulus divides the difference. -/
theorem gfMultiplyIsPolynomialProduct : Obligations.GfMultiplyIsPolynomialProduct := by
  intro a b
  have hdvd : modulus ∣ polyOf a * polyOf b - polyOf (gfMultiply a b) := by
    rw [← AdjoinRoot.mk_eq_mk, map_mul]
    exact (residueOf_gfMultiply a b).symm
  obtain ⟨q, hq⟩ := hdvd
  exact ⟨q, (sub_eq_iff_eq_add.1 hq).trans (by rw [mul_comm q]; rfl)⟩

/-- Settles O45: the inverse is `gfInverse`, its affine transform the table (`sbox_eq_affine`). -/
theorem sboxIsAffineOfInverse : Obligations.SboxIsAffineOfInverse := by
  refine fun x => ⟨gfInverse x, ?_, sbox_eq_affine x, ?_⟩
  · split
    · next h =>
      rw [h]
      rfl
    · next h => exact gfMultiply_gfInverse h
  · revert x
    decide

/-- Settles O46: the ten entries, and their words. -/
theorem roundConstants : Obligations.RoundConstants := by
  have hdouble : ∀ n : Fin 9, rcon n.succ = gfMultiply (rcon n.castSucc) 0x02 := by decide
  exact ⟨by decide, fun k h => hdouble ⟨k, by omega⟩, fun k => ⟨rfl, rfl, rfl, rfl⟩⟩

/-- Settles O48: one byte of each transform depends on one byte, on a row and on a column of the block. -/
theorem transformLanes : Obligations.TransformLanes := by
  refine ⟨fun s t k i h => ?_, fun s t r h c => ?_, fun s t c h r => ?_⟩
  · rw [substituteBytes_getElem, substituteBytes_getElem, inverseSubstituteBytes_getElem, inverseSubstituteBytes_getElem, h]
    rw [getElem_eq_byteAt, getElem_eq_byteAt t] at h
    rw [getElem_eq_byteAt, getElem_eq_byteAt (addRoundKey t k), byteAt_addRoundKey, byteAt_addRoundKey, h]
    exact ⟨rfl, rfl, rfl⟩
  · simp only [byteAt_shiftRows, byteAt_inverseShiftRows, h, and_self]
  · simp only [mixColumns, inverseMixColumns, byteAt_mixWith, h, and_self]

end
